-- ==== Sys2Proof/Word.lean ====
section
/-! DEFINITION. The widths of the block (spec/00_scope.md R7 to R9): an instruction byte, a 6-bit
field, and the 32-bit coordinates, accumulator and stream offset. `v[hi:lo]` of R9 is
`BitVec.extractLsb hi lo`, `a ++ b` is `BitVec.append`, `zext` is `setWidth`, `sext` is `signExtend`. -/

namespace Sys2Proof

/-- An instruction byte, a stream byte, a colour byte (R8, R50, R150). -/
abbrev Byte := BitVec 8

/-- A 6-bit operand or DATA field (R71, R150). -/
abbrev Field6 := BitVec 6

/-- A coordinate: COORD_WIDTH = 32 bits, two's complement (R7, D2). -/
abbrev Coord := BitVec 32

/-- The accumulator's width: DATA_WIDTH = 32 bits, unsigned (R7, D3). -/
abbrev Acc := BitVec 32

/-- A stream offset: PC_WIDTH = 32 bits, unsigned (R7, D15). -/
abbrev Offset := BitVec 32

end Sys2Proof
end

