-- ==== Sys2Proof/Syntax.lean ====
section
/-! DEFINITION. The decoded instructions (spec/40_decoder.md R91): the twelve defined ones and the
reserved TOOL class, whose five rows of spec/opcode_table.json are one decoded form. -/

namespace Sys2Proof

/-- A decoded instruction (R91). The ranges of the operands are `Instr.wellFormed`. -/
inductive Instr where
  /-- `DX d`, R110. -/
  | dx (d : Coord)
  /-- `DY d`, R111. -/
  | dy (d : Coord)
  /-- `TOOL NONE`, R121. -/
  | toolNone
  /-- `TOOL LINE`, R122. -/
  | toolLine
  /-- `TOOL BLOCK`, R123. -/
  | toolBlock
  /-- `TOOL COLOUR`, R124. -/
  | toolColour
  /-- `TOOL TARGETX`, R125. -/
  | toolTargetX
  /-- `TOOL TARGETY`, R126. -/
  | toolTargetY
  /-- `TOOL SHOW`, R127. -/
  | toolShow
  /-- `TOOL PAUSE`, R128. -/
  | toolPause
  /-- `TOOL NEXTFRAME`, R129. -/
  | toolNextframe
  /-- `DATA f`, R140. -/
  | data (f : Field6)
  /-- TOOL with a reserved sub-opcode, R130. -/
  | toolReserved (c : Field6)
deriving DecidableEq, Repr

/-- The instruction's mnemonic, as spec/opcode_table.json spells it. -/
def Instr.mnemonic : Instr → String
  | .dx _ => "DX"
  | .dy _ => "DY"
  | .toolNone => "TOOL.NONE"
  | .toolLine => "TOOL.LINE"
  | .toolBlock => "TOOL.BLOCK"
  | .toolColour => "TOOL.COLOUR"
  | .toolTargetX => "TOOL.TARGETX"
  | .toolTargetY => "TOOL.TARGETY"
  | .toolShow => "TOOL.SHOW"
  | .toolPause => "TOOL.PAUSE"
  | .toolNextframe => "TOOL.NEXTFRAME"
  | .data _ => "DATA"
  | .toolReserved _ => "TOOL.reserved"

end Sys2Proof
end

