-- ==== Sys2Proof/WellFormed.lean ====
section
/-! DEFINITION. The operand ranges of spec/40_decoder.md R91: a delta of DX or DY is in -32..31, a
reserved sub-opcode is in 9..63. -/

namespace Sys2Proof

/-- `d` is in -32..31, read as two's complement (R91, R12). -/
def deltaInRange (d : Coord) : Bool := decide (-32 ≤ d.toInt) && decide (d.toInt ≤ 31)

/-- The fields of the instruction are in the ranges R91 shows. -/
def Instr.wellFormed : Instr → Bool
  | .dx d => deltaInRange d
  | .dy d => deltaInRange d
  | .toolReserved c => decide (9 ≤ c.toNat)
  | .toolNone | .toolLine | .toolBlock | .toolColour | .toolTargetX | .toolTargetY
  | .toolShow | .toolPause | .toolNextframe | .data _ => true

end Sys2Proof
end

