-- ==== Sys2Proof/Decode.lean ====
section
/-! DEFINITION. The decoder and the encoder (spec/40_decoder.md R90 to R92), and the rows of
spec/opcode_table.json as masks and patterns (spec/30_encoding.md R72, R74, R75). -/

namespace Sys2Proof

/-- Bits 7:6, the opcode (R71). -/
def opcodeOf (b : Byte) : BitVec 2 := b.extractLsb 7 6

/-- Bits 5:0, the operand (R71). -/
def operandOf (b : Byte) : Field6 := b.extractLsb 5 0

/-- The byte with opcode `op` and operand `opnd`: `op ++ opnd` (R71, R91). -/
def joinByte (op : BitVec 2) (opnd : Field6) : Byte := op ++ opnd

/-- The delta of DX and DY: `sext_32(opnd)` (R73, R92). -/
def delta (opnd : Field6) : Coord := opnd.signExtend 32

/-- The TOOL instruction of a sub-opcode: the nth of the nine names, or reserved (R74, R90). -/
def decodeTool (c : Field6) : Instr :=
  match c.toNat with
  | 0 => .toolNone
  | 1 => .toolLine
  | 2 => .toolBlock
  | 3 => .toolColour
  | 4 => .toolTargetX
  | 5 => .toolTargetY
  | 6 => .toolShow
  | 7 => .toolPause
  | 8 => .toolNextframe
  | _ => .toolReserved c

/-- `decode(b)` (R90): total, and it reads nothing but `b`. -/
def decodeByte (b : Byte) : Instr :=
  match (opcodeOf b).toNat with
  | 0 => .dx (delta (operandOf b))
  | 1 => .dy (delta (operandOf b))
  | 2 => decodeTool (operandOf b)
  | _ => .data (operandOf b)

/-- Why a list of bytes gives no instruction. -/
inductive DecodeError where
  /-- There is no byte to decode; every byte that is there decodes (R78). -/
  | noByte
deriving DecidableEq, Repr

/-- Decode the first instruction of a list of bytes, and the bytes after it (R70: always one byte). -/
def decode : List Byte → Except DecodeError (Instr × List Byte)
  | [] => .error .noByte
  | b :: rest => .ok (decodeByte b, rest)

/-- `encode(i)` (R91), with the sub-opcode numbers of R74. -/
def encode : Instr → Byte
  | .dx d => joinByte 0 (d.setWidth 6)
  | .dy d => joinByte 1 (d.setWidth 6)
  | .toolNone => joinByte 2 0
  | .toolLine => joinByte 2 1
  | .toolBlock => joinByte 2 2
  | .toolColour => joinByte 2 3
  | .toolTargetX => joinByte 2 4
  | .toolTargetY => joinByte 2 5
  | .toolShow => joinByte 2 6
  | .toolPause => joinByte 2 7
  | .toolNextframe => joinByte 2 8
  | .data f => joinByte 3 f
  | .toolReserved c => joinByte 2 c

/-- One row of spec/opcode_table.json: a byte belongs to it when its bits under `mask` are `pattern`. -/
structure OpcodeRow where
  mnemonic : String
  pattern : Byte
  mask : Byte
deriving DecidableEq, Repr

/-- The row holds the byte. -/
def OpcodeRow.holds (r : OpcodeRow) (b : Byte) : Bool := b &&& r.mask == r.pattern

/-- The rows of the twelve defined instructions (spec/opcode_table.json). -/
def definedRows : List OpcodeRow :=
  [⟨"DX", 0x00, 0xC0⟩, ⟨"DY", 0x40, 0xC0⟩,
   ⟨"TOOL.NONE", 0x80, 0xFF⟩, ⟨"TOOL.LINE", 0x81, 0xFF⟩, ⟨"TOOL.BLOCK", 0x82, 0xFF⟩,
   ⟨"TOOL.COLOUR", 0x83, 0xFF⟩, ⟨"TOOL.TARGETX", 0x84, 0xFF⟩, ⟨"TOOL.TARGETY", 0x85, 0xFF⟩,
   ⟨"TOOL.SHOW", 0x86, 0xFF⟩, ⟨"TOOL.PAUSE", 0x87, 0xFF⟩, ⟨"TOOL.NEXTFRAME", 0x88, 0xFF⟩,
   ⟨"DATA", 0xC0, 0xC0⟩]

/-- The five rows of the reserved space (R75). -/
def reservedRows : List OpcodeRow :=
  [⟨"TOOL.reserved", 0x89, 0xFF⟩, ⟨"TOOL.reserved", 0x8A, 0xFE⟩, ⟨"TOOL.reserved", 0x8C, 0xFC⟩,
   ⟨"TOOL.reserved", 0x90, 0xF0⟩, ⟨"TOOL.reserved", 0xA0, 0xE0⟩]

/-- The rows of spec/opcode_table.json, 17 of them. -/
def opcodeRows : List OpcodeRow := definedRows ++ reservedRows

/-- The bytes of an instruction of `nbits` bits `w`, as the opcode table numbers them: one byte for
`nbits <= 8` (bits above `nbits` are 0), one more for each further eight bits. -/
def tableBytes (nbits w : Nat) : List Byte :=
  (List.range (max 1 ((nbits + 7) / 8))).map fun k => BitVec.ofNat 8 (w % 2 ^ nbits / 2 ^ (8 * k))

/-- The instruction this decoder reads from an instruction of `nbits` bits `w`; `none` where bytes are
left over, since every instruction is one byte (R70). -/
def decodeTableWord (nbits w : Nat) : Option Instr :=
  match decode (tableBytes nbits w) with
  | .ok (i, []) => some i
  | _ => none

end Sys2Proof
end

