-- ==== Sys2Proof/Config.lean ====
section
/-! DEFINITION. What is fixed for one block and not by the instruction set (spec/00_scope.md R7):
the one parameter the spec leaves OPEN, RESET_TOOL, and the bound on the stream's length. -/

namespace Sys2Proof

/-- The tool modes, "one of {NONE, LINE, BLOCK}" (spec/10_state.md R26). -/
inductive ToolMode where
  | none
  | line
  | block
deriving DecidableEq, Repr, Inhabited

/-- RESET_TOOL, the tool mode after reset and after stream exhaustion: OPEN (R7, R33, R35, D8), so a
constant with no body. A claim that rests on it holds for all three modes. Log 1. -/
opaque Config.resetTool : ToolMode

/-- The longest stream the host may load: `L <= 2^32 - 1` (R7, D15). -/
def Config.maxStreamLen : Nat := 4294967295

end Sys2Proof
end

