-- ==== Sys2Proof/Machine/State.lean ====
section
/-! DEFINITION. The state (spec/10_state.md R20 to R35), the display events (spec/45_session.md R186),
the host's moves and replies (R188), the instruction stream, the reasons a step can stop, and reset. -/

namespace Sys2Proof.Machine

/-- `phase` (R30): IDLE between invocations, RUNNING during one. -/
inductive Phase where
  | idle
  | running
deriving DecidableEq, Repr

/-- The status an invocation returns (R181). -/
inductive Status where
  | frame
  | exhausted
  | fault
deriving DecidableEq, Repr

/-- A display command (R186). -/
inductive Event where
  | drawLine (x0 y0 x1 y1 : Coord)
  | drawBlock (x y width height : Coord)
  | setColour (c : Acc)
  | present
  | pause (p : Acc)
deriving DecidableEq, Repr

/-- The continuation as the host holds it (R32): plain numbers, which may not fit the block's widths. -/
structure ContinuationTuple where
  x : Int
  y : Int
  tx : Int
  ty : Int
  tool : Nat
  data : Nat
  start : Nat
  endFlag : Nat
deriving DecidableEq, Repr

/-- One move of the host, each taken only while `phase = IDLE` (R188). -/
inductive HostMove where
  /-- Load stream: the bytes of offsets 0..L-1. -/
  | load (bytes : List Byte)
  /-- Reset (R220). -/
  | reset
  /-- Run, that is invoke (R180). -/
  | run
  /-- Read continuation (R32). -/
  | readContinuation
  /-- Write continuation (R32). -/
  | writeContinuation (t : ContinuationTuple)
  /-- Read fault status (R27). -/
  | readFaultStatus
  /-- Stop: the block does nothing. -/
  | stop
deriving DecidableEq, Repr

/-- What the host gets back from a move (R188); the event list given back with a status is `State.events`. -/
inductive HostReply where
  | status (st : Status)
  | continuation (t : ContinuationTuple)
  | faultStatus (fault : Bool) (code : BitVec 2) (byte : Byte) (offset : Offset)
deriving DecidableEq, Repr

/-- The stream's bytes: the offsets that hold a byte other than 0x00, rising. What an offset below `L`
that is not listed reads as is `Memory.unlisted`. -/
abbrev Memory := List Host.Cell

/-- What an unlisted offset below `L` reads as. DESIGN CHOICE, log 4: `load` lists every other byte, so
after a load an unlisted offset is one whose loaded byte is 0x00. -/
def Memory.unlisted : Byte := 0

/-- The canonical form: offsets strictly rising, and no entry equal to what an unlisted offset reads as. -/
abbrev Memory.wf (m : Memory) : Prop :=
  m.Pairwise (fun a b => a.1 < b.1) ∧ ∀ c ∈ m, c.2 ≠ Memory.unlisted

/-- The machine's state. The first thirteen fields are the record `S` of R20. -/
structure State where
  /-- Cursor x (R21). -/
  x : Coord
  /-- Cursor y (R21). -/
  y : Coord
  /-- Target x (R22). -/
  tx : Coord
  /-- Target y (R22). -/
  ty : Coord
  /-- Tool mode (R26). -/
  tool : ToolMode
  /-- The DATA accumulator (R29). -/
  data : Acc
  /-- The program counter (R24). -/
  start : Offset
  /-- `end`, frame boundary reached (R25). -/
  endFlag : Bool
  /-- The sticky fault bit (R27). -/
  fault : Bool
  /-- `fault_code`: 0 none, 1 RESERVED_TOOL (R27). -/
  faultCode : BitVec 2
  /-- `fault_byte`, the instruction byte that faulted (R27). -/
  faultByte : Byte
  /-- `fault_at`, its offset (R27). -/
  faultAt : Offset
  /-- IDLE or RUNNING (R30). -/
  phase : Phase
  /-- The bytes of the instruction stream (R50). -/
  stream : Memory
  /-- `L`, the stream's length in bytes (R7). -/
  streamLen : Nat
  /-- The display commands of the current invocation, oldest first (R31, R186). -/
  events : List Event
  /-- What the last host move gave back; `none` for nothing, or while an invocation runs (R181, R188). Log 6. -/
  reply : Option HostReply
  /-- An invocation has been started since power-on: the model's own field, for "before the first
  invocation" of R188. Log 7. -/
  launched : Bool
  /-- The host's moves not yet taken, the next one first: the model's own field. Log 2. -/
  hostMoves : List HostMove
deriving DecidableEq, Repr

/-- Why the machine stops with a fault. The exception RESERVED_TOOL is none of these: it is a next state (R204). -/
inductive Fault where
  /-- A read of the stream at an offset that is not below `L` (R11, R51), raised by `memRead`. Safe: no step
  issues such a read, since `start >= L` is exhaustion (R182). DEDUCED, log 11. -/
  | readOutsideStream
deriving DecidableEq, Repr

/-- Why the model refuses. All but the first are about moves of the host, never about an instruction. DEDUCED,
log 15. -/
inductive Refusal where
  /-- An instruction with no meaning yet, raised by `exec` alone; no arm of `exec` answers it. Safe. -/
  | notModelled (mnemonic : String)
  /-- A load after the first invocation, raised by `hostLoad`: "refuse: a host with that move is not
  modelled" (U13, R58, R188). Safe. -/
  | streamRewritten
  /-- A stream of 2^32 bytes or more, raised by `hostLoad` (R7, U18). Safe. -/
  | streamTooLong
  /-- A continuation with a field that does not fit, or with `tool` not in 0..2, raised by
  `hostWriteContinuation`: "refused: the model has no step from such a state" (R32, U17). Safe. -/
  | continuationRefused
deriving DecidableEq, Repr

/-- The machine right after reset (R33, R220), with no stream loaded and no move of the host pending. -/
def State.reset : State where
  x := 0
  y := 0
  tx := 0
  ty := 0
  tool := Config.resetTool
  data := 0
  start := 0
  endFlag := false
  fault := false
  faultCode := 0
  faultByte := 0
  faultAt := 0
  phase := .idle
  stream := []
  streamLen := 0
  events := []
  reply := none
  launched := false
  hostMoves := []

end Sys2Proof.Machine
end

