-- ==== Sys2Proof/Machine/Flags.lean ====
section
/-! DEFINITION. The one flag, `end` (spec/10_state.md R25). No other flag or condition code exists, and
no instruction computes one. -/

namespace Sys2Proof.Machine

/-- `end <- 1`: NEXTFRAME's write (R129). -/
def raiseEnd (s : State) : State := { s with endFlag := true }

/-- `end <- 0`: the session controller's write when an invocation begins (R180). -/
def lowerEnd (s : State) : State := { s with endFlag := false }

end Sys2Proof.Machine
end

