-- ==== Sys2Proof/Machine/Operands.lean ====
section
/-! DEFINITION. The operand forms: how a field enters the accumulator (spec/43_data.md R140), how the
accumulator becomes a coordinate (spec/42_tool.md R125), the 2-bit code of a tool mode (spec/10_state.md
R26), and the widths of a continuation's fields (R32). -/

namespace Sys2Proof.Machine

/-- `trunc_32((data << 6) | zext_32(f))` (R140). -/
def shiftInField (data : Acc) (f : Field6) : Acc := (data <<< 6) ||| f.setWidth 32

/-- `sint(trunc_32(data))`: the 32 bits of `data`, read as a coordinate (R125, D4). -/
def dataAsCoord (data : Acc) : Coord := data

/-- The code of a tool mode: its sub-opcode number (R26, D7). -/
def toolCode : ToolMode → BitVec 2
  | .none => 0
  | .line => 1
  | .block => 2

/-- The tool mode of a number; `none` for 3 and above (R26, R32). -/
def toolOfCode : Nat → Option ToolMode
  | 0 => some .none
  | 1 => some .line
  | 2 => some .block
  | _ => none

/-- The number fits COORD_WIDTH bits of two's complement (R32). -/
def fitsCoord (v : Int) : Bool := decide (-2147483648 ≤ v) && decide (v ≤ 2147483647)

/-- The number fits 32 unsigned bits (R32). -/
def fitsWord (v : Nat) : Bool := decide (v < 4294967296)

/-- Every field but `tool` fits its width (R32). -/
def continuationFits (t : ContinuationTuple) : Bool :=
  fitsCoord t.x && fitsCoord t.y && fitsCoord t.tx && fitsCoord t.ty && fitsWord t.data
    && fitsWord t.start && decide (t.endFlag ≤ 1)

end Sys2Proof.Machine
end

