-- ==== Sys2Proof/Machine/Ops.lean ====
section
/-! DEFINITION. The named operations over the stream and the registers, taking the one exception
(spec/60_exceptions.md R200, R204), and the way back from it, the initial values (spec/10_state.md R33). -/

namespace Sys2Proof.Machine

/-- The byte the list gives at an offset. -/
def Memory.read : Memory → Nat → Byte
  | [], _ => Memory.unlisted
  | (k, b) :: m, a => if a = k then b else Memory.read m a

/-- Put an entry in front, unless it equals what an unlisted offset reads as. -/
def Memory.cons (a : Nat) (b : Byte) (m : Memory) : Memory :=
  if b = Memory.unlisted then m else (a, b) :: m

/-- Store a byte, keeping the canonical form. No instruction stores (R97); only placing a program does. -/
def Memory.write : Memory → Nat → Byte → Memory
  | [], a, b => Memory.cons a b []
  | (k, c) :: m, a, b =>
    if a < k then Memory.cons a b ((k, c) :: m)
    else if a = k then Memory.cons a b m
    else (k, c) :: Memory.write m a b

/-- The stream that holds `bytes` from offset `a` on. -/
def Memory.ofBytes : Nat → List Byte → Memory
  | _, [] => []
  | a, b :: bs => Memory.cons a b (Memory.ofBytes (a + 1) bs)

/-- `MemRead(a, 1)` (R11, R51): the byte at offset `a`, defined only below `L`. -/
def memRead (s : State) (a : Nat) : Except Fault Byte :=
  if a < s.streamLen then .ok (Memory.read s.stream a) else .error .readOutsideStream

/-- Fetch and decode the instruction at `start` (R93). -/
def fetch (s : State) : Except Fault Instr :=
  match memRead s s.start.toNat with
  | .ok b => .ok (decodeByte b)
  | .error f => .error f

/-- `start <- start + 1`, the end of every instruction that does not fault (R93). -/
def advance (s : State) : State := { s with start := s.start + 1 }

/-- `tx <- v`. -/
def setTx (v : Coord) (s : State) : State := { s with tx := v }

/-- `ty <- v`. -/
def setTy (v : Coord) (s : State) : State := { s with ty := v }

/-- The commit `x, y := tx, ty` (R21, R111). -/
def commitCursor (s : State) : State := { s with x := s.tx, y := s.ty }

/-- `tool <- m` (R26). -/
def setTool (m : ToolMode) (s : State) : State := { s with tool := m }

/-- `data <- v` (R29). -/
def setData (v : Acc) (s : State) : State := { s with data := v }

/-- Clear the accumulator: what every defined TOOL ends with (R120). -/
def clearData (s : State) : State := setData 0 s

/-- `Emit` of the events listed, none or one of them (R11, R94, R187). -/
def emitAll (es : List Event) (s : State) : State := { s with events := s.events ++ es }

/-- `Emit(e)` (R11). -/
def emit (e : Event) (s : State) : State := emitAll [e] s

/-- The draw command of DY for the tool in effect (R112): from the old cursor, to the target. -/
def drawEvents (s : State) : List Event :=
  match s.tool with
  | .none => []
  | .line => [.drawLine s.x s.y s.tx s.ty]
  | .block => [.drawBlock s.x s.y (s.tx - s.x) (s.ty - s.y)]

/-- `fault_code` of RESERVED_TOOL (R200). -/
def codeReservedTool : BitVec 2 := 1

/-- `raise Fault(code, (b, a))` (R200): the fault fields and nothing else. -/
def raiseFault (code : BitVec 2) (b : Byte) (a : Offset) (s : State) : State :=
  { s with fault := true, faultCode := code, faultByte := b, faultAt := a }

/-- The fault fields at their initial values: reset alone does this (R27, R205). -/
def clearFault (s : State) : State :=
  { s with fault := false, faultCode := 0, faultByte := 0, faultAt := 0 }

/-- The initial values of every field of `S` but the fault fields (R33, R221). -/
def applyInitial (s : State) : State :=
  { s with x := 0, y := 0, tx := 0, ty := 0, tool := Config.resetTool, data := 0, start := 0,
           endFlag := false, phase := .idle }

/-- Store one byte of the stream, and let the stream reach past it. -/
def placeByte (a : Nat) (b : Byte) (s : State) : State :=
  { s with stream := Memory.write s.stream a b, streamLen := max s.streamLen (a + 1) }

end Sys2Proof.Machine
end

