-- ==== Sys2Proof/Machine/Cursor.lean ====
section
/-! DEFINITION. The meanings of DX and DY (spec/41_cursor.md R110 to R112). -/

namespace Sys2Proof.Machine

/-- `DX d` (R110): `tx <- tx + d` modulo 2^32. -/
def execDx (d : Coord) (s : State) : Host.Outcome State Fault Refusal :=
  .next (advance (setTx (s.tx + d) s))

/-- The draw of DY, once `ty` is updated (R111, R112). -/
def drawWithTool (s : State) : State := emitAll (drawEvents s) s

/-- `DY d` (R111): `ty <- ty + d` modulo 2^32, then the draw, then the commit. -/
def execDy (d : Coord) (s : State) : Host.Outcome State Fault Refusal :=
  .next (advance (commitCursor (drawWithTool (setTy (s.ty + d) s))))

end Sys2Proof.Machine
end

