-- ==== Sys2Proof/Machine/Data.lean ====
section
/-! DEFINITION. The meaning of DATA (spec/43_data.md R140). -/

namespace Sys2Proof.Machine

/-- `DATA f` (R140): shift the field into the accumulator. -/
def execData (f : Field6) (s : State) : Host.Outcome State Fault Refusal :=
  .next (advance (setData (shiftInField s.data f) s))

end Sys2Proof.Machine
end

