-- ==== Sys2Proof/Machine/Tool.lean ====
section
/-! DEFINITION. The meanings of the TOOL instructions (spec/42_tool.md R120 to R130). Each of the nine
defined ones uses `data` first, has its effect, and clears `data` (R120). -/

namespace Sys2Proof.Machine

/-- The end of a defined TOOL: clear `data`, then the step's increment (R120, R93). -/
def finishTool (s : State) : Host.Outcome State Fault Refusal := .next (advance (clearData s))

/-- `TOOL NONE` (R121). -/
def execToolNone (s : State) : Host.Outcome State Fault Refusal := finishTool (setTool .none s)

/-- `TOOL LINE` (R122). -/
def execToolLine (s : State) : Host.Outcome State Fault Refusal := finishTool (setTool .line s)

/-- `TOOL BLOCK` (R123). -/
def execToolBlock (s : State) : Host.Outcome State Fault Refusal := finishTool (setTool .block s)

/-- `TOOL COLOUR` (R124): the whole accumulator goes to the display (C4, D12). -/
def execToolColour (s : State) : Host.Outcome State Fault Refusal :=
  finishTool (emit (.setColour s.data) s)

/-- `TOOL TARGETX` (R125). -/
def execToolTargetX (s : State) : Host.Outcome State Fault Refusal :=
  finishTool (setTx (dataAsCoord s.data) s)

/-- `TOOL TARGETY` (R126). -/
def execToolTargetY (s : State) : Host.Outcome State Fault Refusal :=
  finishTool (setTy (dataAsCoord s.data) s)

/-- `TOOL SHOW` (R127). -/
def execToolShow (s : State) : Host.Outcome State Fault Refusal := finishTool (emit .present s)

/-- `TOOL PAUSE` (R128): a request to the display; the block does not wait (D23). -/
def execToolPause (s : State) : Host.Outcome State Fault Refusal :=
  finishTool (emit (.pause s.data) s)

/-- `TOOL NEXTFRAME` (R129). -/
def execToolNextframe (s : State) : Host.Outcome State Fault Refusal := finishTool (raiseEnd s)

/-- TOOL with a reserved sub-opcode (R130): take the exception RESERVED_TOOL; `start` stays at the byte. -/
def execToolReserved (c : Field6) (s : State) : Host.Outcome State Fault Refusal :=
  .next (raiseFault codeReservedTool (joinByte 2 c) s.start s)

end Sys2Proof.Machine
end

