-- ==== Sys2Proof/Machine/Dispatch.lean ====
section
/-! DEFINITION. The dispatch (spec/40_decoder.md R93, R95): one arm per decoded instruction, each one
call of that instruction's meaning. -/

namespace Sys2Proof.Machine

def exec (i : Instr) (s : State) : Host.Outcome State Fault Refusal :=
  match i with
  | .dx d => Sys2Proof.Machine.execDx d s
  | .dy d => Sys2Proof.Machine.execDy d s
  | .toolNone => Sys2Proof.Machine.execToolNone s
  | .toolLine => Sys2Proof.Machine.execToolLine s
  | .toolBlock => Sys2Proof.Machine.execToolBlock s
  | .toolColour => Sys2Proof.Machine.execToolColour s
  | .toolTargetX => Sys2Proof.Machine.execToolTargetX s
  | .toolTargetY => Sys2Proof.Machine.execToolTargetY s
  | .toolShow => Sys2Proof.Machine.execToolShow s
  | .toolPause => Sys2Proof.Machine.execToolPause s
  | .toolNextframe => Sys2Proof.Machine.execToolNextframe s
  | .data f => Sys2Proof.Machine.execData f s
  | .toolReserved c => Sys2Proof.Machine.execToolReserved c s

end Sys2Proof.Machine
end

