-- ==== Sys2Proof/Machine/Session.lean ====
section
/-! DEFINITION. The invocation's boundary (spec/45_session.md R180 to R185) and the host's moves
(R188; spec/10_state.md R32; spec/70_reset_and_hazards.md R220). -/

namespace Sys2Proof.Machine

/-- The invocation returns: `phase <- IDLE`, and the status goes to the host (R180, R181). -/
def returnWith (st : Status) (s : State) : State :=
  { s with phase := .idle, reply := some (.status st) }

/-- The tests after an instruction's step, in R180's order: the fault, then `end`. -/
def settle (s : State) : State :=
  if s.fault then returnWith .fault s
  else if s.endFlag then returnWith .frame s
  else s

/-- `settle` the state an instruction leaves. -/
def settleOutcome : Host.Outcome State Fault Refusal → Host.Outcome State Fault Refusal
  | .next s => .next (settle s)
  | .fault f => .fault f
  | .refused r => .refused r

/-- Stream exhaustion (R182): the initial values, and EXHAUSTED; the events stay emitted. -/
def exhaust (s : State) : State := returnWith .exhausted (applyInitial s)

/-- The instruction stream's end is reached: `start >= L` (R182). -/
def atEnd (s : State) : Bool := decide (s.streamLen ≤ s.start.toNat)

/-- The reply of the move just taken. -/
def answer (r : Option HostReply) (s : State) : State := { s with reply := r }

/-- Begin an invocation: RUNNING, and no events yet (R180, R31). -/
def beginRunning (s : State) : State :=
  { s with phase := .running, events := [], reply := none, launched := true }

/-- An invocation of a faulted block: no step, no event, FAULT (R180, R185). -/
def refuseFaulted (s : State) : State := { s with events := [], reply := some (.status .fault) }

/-- Run (R180, up to the loop). -/
def hostRun (s : State) : State :=
  if s.fault then refuseFaulted s else beginRunning (lowerEnd s)

/-- Reset (R220): every field of `S` at its initial value; the stream is not touched. -/
def hostReset (s : State) : State := answer none (clearFault (applyInitial s))

/-- The stream and its length, once loaded. -/
def setStream (bytes : List Byte) (s : State) : State :=
  { s with stream := Memory.ofBytes 0 bytes, streamLen := bytes.length }

/-- Load stream (R188): before the first invocation, at most 2^32 - 1 bytes. -/
def hostLoad (bytes : List Byte) (s : State) : Host.Outcome State Fault Refusal :=
  if s.launched then .refused .streamRewritten
  else if Config.maxStreamLen < bytes.length then .refused .streamTooLong
  else .next (answer none (setStream bytes s))

/-- The continuation (R32), as the host reads it. -/
def continuationOf (s : State) : ContinuationTuple where
  x := s.x.toInt
  y := s.y.toInt
  tx := s.tx.toInt
  ty := s.ty.toInt
  tool := (toolCode s.tool).toNat
  data := s.data.toNat
  start := s.start.toNat
  endFlag := s.endFlag.toNat

/-- Replace the continuation by a tuple that fits, with its tool mode (R32); the fault fields stay. -/
def restore (t : ContinuationTuple) (m : ToolMode) (s : State) : State :=
  { s with x := BitVec.ofInt 32 t.x, y := BitVec.ofInt 32 t.y, tx := BitVec.ofInt 32 t.tx,
           ty := BitVec.ofInt 32 t.ty, tool := m, data := BitVec.ofNat 32 t.data,
           start := BitVec.ofNat 32 t.start, endFlag := decide (t.endFlag = 1) }

/-- Write continuation (R32): accepted when every field fits and `tool` is in 0..2. -/
def hostWriteContinuation (t : ContinuationTuple) (s : State) : Host.Outcome State Fault Refusal :=
  match toolOfCode t.tool with
  | some m =>
    if continuationFits t then .next (answer none (restore t m s)) else .refused .continuationRefused
  | none => .refused .continuationRefused

/-- The fault status (R27), as the host reads it. -/
def faultStatusOf (s : State) : HostReply :=
  .faultStatus s.fault s.faultCode s.faultByte s.faultAt

/-- One move of the host on an idle block (R188). DESIGN CHOICE: Stop clears the reply (log 19). -/
def hostMove (m : HostMove) (s : State) : Host.Outcome State Fault Refusal :=
  match m with
  | .load bytes => hostLoad bytes s
  | .reset => .next (hostReset s)
  | .run => .next (hostRun s)
  | .readContinuation => .next (answer (some (.continuation (continuationOf s))) s)
  | .writeContinuation t => hostWriteContinuation t s
  | .readFaultStatus => .next (answer (some (faultStatusOf s)) s)
  | .stop => .next (answer none s)

/-- The moves still to be taken. -/
def setMoves (ms : List HostMove) (s : State) : State := { s with hostMoves := ms }

/-- The idle block takes the next move; with none pending it waits, unchanged (R210). -/
def idleStep (s : State) : Host.Outcome State Fault Refusal :=
  match s.hostMoves with
  | [] => .next s
  | m :: ms => hostMove m (setMoves ms s)

/-- The moves of one call of the source's callback: a null state is Reset then Run (R188, D25). DEDUCED, log 20. -/
def renderMoves : Option ContinuationTuple → List HostMove
  | none => [.reset, .run]
  | some t => [.writeContinuation t, .run]

end Sys2Proof.Machine
end

