-- ==== Sys2Proof/Machine/Step.lean ====
section
/-! DEFINITION. One step of the machine: a move of the host while idle, one iteration of the loop of
spec/45_session.md R180 while running. -/

namespace Sys2Proof.Machine

/-- One step. While running, in R180's order: a fault, the end of the stream, else the instruction at
`start` and the tests after it. DEDUCED: one pass of R180's loop is one step, and a running block that has
faulted, which no run reaches, returns FAULT (logs 9 and 10). -/
def step (s : State) : Host.Outcome State Fault Refusal :=
  match s.phase with
  | .idle => idleStep s
  | .running =>
    if s.fault then .next (returnWith .fault s)
    else if atEnd s then .next (exhaust s)
    else
      match fetch s with
      | .ok i => settleOutcome (exec i s)
      | .error f => .fault f

/-- `s` with that one-byte instruction at `start`, inside an invocation of a block that has not faulted,
so that the next step runs it. Log 8. -/
def State.withFetchWord (s : State) (nbits w : Nat) : State :=
  { placeByte s.start.toNat ((tableBytes nbits w).headD 0) s with
    phase := .running, fault := false, launched := true }

end Sys2Proof.Machine
end

