-- ==== Sys2Proof/Machine/Codec.lean ====
section
/-! DEFINITION. The DATA field codec, DFC (spec/44_codec.md R150 to R168): pure functions of their
inputs, with no state (R34). `packTail` carries the BOTTOM four bits (C1). -/

namespace Sys2Proof.Machine

/-- `packHigh2(v) = 0b0000 ++ v[7:6]` (R151). -/
def packHigh2 (v : Byte) : Field6 := 0#4 ++ v.extractLsb 7 6

/-- `packLow6(v) = v[5:0]` (R152). -/
def packLow6 (v : Byte) : Field6 := v.extractLsb 5 0

/-- `packMid6(v) = v[7:2]` (R153). -/
def packMid6 (v : Byte) : Field6 := v.extractLsb 7 2

/-- `packRotate(v) = v[1:0] ++ v[7:4]` (R154). -/
def packRotate (v : Byte) : Field6 := v.extractLsb 1 0 ++ v.extractLsb 7 4

/-- `packTail(v) = v[3:0] ++ 0b11` (R155). -/
def packTail (v : Byte) : Field6 := v.extractLsb 3 0 ++ 3#2

/-- `unpackA(hi, lo) = hi[1:0] ++ lo[5:0]` (R156). -/
def unpackA (hi lo : Field6) : Byte := hi.extractLsb 1 0 ++ lo.extractLsb 5 0

/-- `unpackB(hi, lo) = hi[5:0] ++ lo[5:4]` (R157). -/
def unpackB (hi lo : Field6) : Byte := hi.extractLsb 5 0 ++ lo.extractLsb 5 4

/-- `unpackC(hi, lo) = hi[3:0] ++ lo[5:2]` (R158). -/
def unpackC (hi lo : Field6) : Byte := hi.extractLsb 3 0 ++ lo.extractLsb 5 2

/-- The five fields of the colour layout (R159). -/
structure ColourFields where
  f0 : Field6
  f1 : Field6
  f2 : Field6
  f3 : Field6
  f4 : Field6
deriving DecidableEq, Repr

/-- The three channel bytes (R160). -/
structure Channels where
  r : Byte
  g : Byte
  b : Byte
deriving DecidableEq, Repr

/-- Colour encode (R159). -/
def colourEncode (v : Byte) : ColourFields where
  f0 := packHigh2 v
  f1 := packLow6 v
  f2 := packMid6 v
  f3 := packRotate v
  f4 := packTail v

/-- Colour decode (R160): `f3` serves both G and B. Nothing is checked (R168). -/
def colourDecode (f : ColourFields) : Channels where
  r := unpackA f.f0 f.f1
  g := unpackB f.f2 f.f3
  b := unpackC f.f3 f.f4

/-- The fields in stream order. -/
def ColourFields.toList (f : ColourFields) : List Field6 := [f.f0, f.f1, f.f2, f.f3, f.f4]

/-- The DATA instruction byte of a field: `0b11 ++ f` (R163). -/
def dataByte (f : Field6) : Byte := joinByte 3 f

/-- Wide-operand encode of a coordinate in 0..255 (R165). -/
def wideEncode (w : Byte) : List Field6 :=
  if w.toNat < 64 then [w.extractLsb 5 0] else [packHigh2 w, packLow6 w]

/-- The ports of colour encode (R167): the fields and their DATA bytes. -/
structure EncodePorts where
  fields : ColourFields
  b0 : Byte
  b1 : Byte
  b2 : Byte
  b3 : Byte
  b4 : Byte
deriving DecidableEq, Repr

/-- `enc_f0..enc_f4`, `enc_b0..enc_b4` from `enc_v` (R167). -/
def encodePorts (v : Byte) : EncodePorts where
  fields := colourEncode v
  b0 := dataByte (colourEncode v).f0
  b1 := dataByte (colourEncode v).f1
  b2 := dataByte (colourEncode v).f2
  b3 := dataByte (colourEncode v).f3
  b4 := dataByte (colourEncode v).f4

/-- The ports of wide encode (R167). -/
structure WidePorts where
  n : BitVec 2
  f0 : Field6
  f1 : Field6
deriving DecidableEq, Repr

/-- `wide_n`, `wide_f0`, `wide_f1` from `wide_w`; `wide_f1 = 0` when there is one field (R167, D26). -/
def widePorts (w : Byte) : WidePorts where
  n := BitVec.ofNat 2 (wideEncode w).length
  f0 := (wideEncode w).headD 0
  f1 := (wideEncode w).getD 1 0

end Sys2Proof.Machine
end

