-- ==== Sys2Proof/Machine/Asm.lean ====
section
/-! DEFINITION. The assembly text (spec/30_encoding.md R79), the pseudo-instructions (R80) and the shape
of one encoder run (R81). Text is a list of characters. No step reads any of this (D22).
DESIGN CHOICE: what counts as a blank and as a numeral (log 13). -/

namespace Sys2Proof.Machine

/-- The pseudo-instructions of R80, with operands in 0..255. -/
inductive Pseudo where
  | lit (w : Byte)
  | setX (w : Byte)
  | setY (w : Byte)
  | colourV (v : Byte)
  | moveTo (a b : Byte)
  | fillTo (a b : Byte)
deriving DecidableEq, Repr

/-- `LIT w` (R80): the wide operand as DATA instructions. -/
def expandLit (w : Byte) : List Instr := (wideEncode w).map Instr.data

/-- `SETX w` (R80). -/
def expandSetX (w : Byte) : List Instr := expandLit w ++ [.toolTargetX]

/-- `SETY w` (R80). -/
def expandSetY (w : Byte) : List Instr := expandLit w ++ [.toolTargetY]

/-- The expansion of a pseudo-instruction (R80). -/
def Pseudo.expand : Pseudo → List Instr
  | .lit w => expandLit w
  | .setX w => expandSetX w
  | .setY w => expandSetY w
  | .colourV v => (colourEncode v).toList.map Instr.data ++ [.toolColour]
  | .moveTo a b => expandSetX a ++ expandSetY b ++ [.toolNone, .dy 0]
  | .fillTo a b => expandSetX a ++ expandSetY b ++ [.toolBlock, .dy 0]

/-- One run of the source's encoder (R81). -/
def encoderRun (v wStart hStart wFinal hFinal : Byte) : List Instr :=
  (Pseudo.colourV v).expand ++ (Pseudo.moveTo wStart hStart).expand ++ (Pseudo.fillTo wFinal hFinal).expand

/-- Why a line of assembly is refused (R79). -/
inductive AsmError where
  /-- The line is no form of R79. -/
  | unknownForm
  /-- An operand is not a number. -/
  | notANumber
  /-- An operand is out of range: "an assembly error, never a wrapped value". -/
  | outOfRange
deriving DecidableEq, Repr

/-- The nine names of R79, each with its instruction. -/
def toolNames : List (List Char × Instr) :=
  [(['N', 'O', 'N', 'E'], .toolNone), (['L', 'I', 'N', 'E'], .toolLine),
   (['B', 'L', 'O', 'C', 'K'], .toolBlock), (['C', 'O', 'L', 'O', 'U', 'R'], .toolColour),
   (['T', 'A', 'R', 'G', 'E', 'T', 'X'], .toolTargetX),
   (['T', 'A', 'R', 'G', 'E', 'T', 'Y'], .toolTargetY),
   (['S', 'H', 'O', 'W'], .toolShow), (['P', 'A', 'U', 'S', 'E'], .toolPause),
   (['N', 'E', 'X', 'T', 'F', 'R', 'A', 'M', 'E'], .toolNextframe)]

/-- The instruction of a TOOL name. -/
def toolNamed (name : List Char) : Option Instr := toolNames.lookup name

/-- A digit's value: `0` to `9`, then `A` to `F` or `a` to `f`. -/
def digitValue (c : Char) : Option Nat :=
  if 48 ≤ c.toNat ∧ c.toNat ≤ 57 then some (c.toNat - 48)
  else if 65 ≤ c.toNat ∧ c.toNat ≤ 70 then some (c.toNat - 55)
  else if 97 ≤ c.toNat ∧ c.toNat ≤ 102 then some (c.toNat - 87)
  else none

/-- A digit of a radix. -/
def digitOf (radix : Nat) (c : Char) : Option Nat :=
  (digitValue c).bind fun d => if d < radix then some d else none

/-- Digits, most significant first, on top of the value read so far. -/
def readDigits (radix : Nat) : Nat → List Char → Option Nat
  | n, [] => some n
  | n, c :: cs => (digitOf radix c).bind fun d => readDigits radix (radix * n + d) cs

/-- An unsigned numeral: at least one digit. -/
def readNat (radix : Nat) : List Char → Option Nat
  | [] => none
  | c :: cs => readDigits radix 0 (c :: cs)

/-- A decimal integer, with an optional minus sign: the operand of DX and DY (R79). -/
def readInt : List Char → Option Int
  | '-' :: cs => (readNat 10 cs).map fun n => -(n : Int)
  | cs => (readNat 10 cs).map fun n => (n : Int)

/-- The operand of DATA and `.byte`. DESIGN CHOICE, log 13: R79 gives no radix for these two, so a numeral is
read as R9 writes one, `0x` before a hexadecimal and `0b` before a binary one, else decimal; P4 of
spec/95_test_vectors.md writes `.byte 0x89`. -/
def readNumeral : List Char → Option Int
  | '0' :: 'x' :: cs => (readNat 16 cs).map fun n => (n : Int)
  | '0' :: 'b' :: cs => (readNat 2 cs).map fun n => (n : Int)
  | cs => readInt cs

/-- The operand read, between `lo` and `hi` (R79). -/
def inRange (lo hi : Int) : Option Int → Except AsmError Int
  | none => .error .notANumber
  | some v => if lo ≤ v ∧ v ≤ hi then .ok v else .error .outOfRange

/-- The word read so far, back to front, unless it is empty. -/
def closeWord (cur : List Char) : List (List Char) := if cur = [] then [] else [cur.reverse]

/-- The words of a line: what stands between blanks (a carriage return counts as one), and each comma. -/
def wordsOf : List Char → List Char → List (List Char)
  | cur, [] => closeWord cur
  | cur, c :: cs =>
    if c = ' ' ∨ c = '\t' ∨ c = '\r' then closeWord cur ++ wordsOf [] cs
    else if c = ',' then closeWord cur ++ [','] :: wordsOf [] cs
    else wordsOf (c :: cur) cs

/-- A line without its comment: `;` starts one (R79). -/
def withoutComment (line : List Char) : List Char := line.takeWhile (· ≠ ';')

/-- One instruction in words (R79): its byte. -/
def assembleWords (mnemonic operand : List Char) : Except AsmError Byte :=
  if mnemonic = ['D', 'X'] then
    (inRange (-32) 31 (readInt operand)).map fun d => encode (.dx (BitVec.ofInt 32 d))
  else if mnemonic = ['D', 'Y'] then
    (inRange (-32) 31 (readInt operand)).map fun d => encode (.dy (BitVec.ofInt 32 d))
  else if mnemonic = ['D', 'A', 'T', 'A'] then
    (inRange 0 63 (readNumeral operand)).map fun f => encode (.data (BitVec.ofInt 6 f))
  else if mnemonic = ['.', 'b', 'y', 't', 'e'] then
    (inRange 0 255 (readNumeral operand)).map fun n => BitVec.ofInt 8 n
  else if mnemonic = ['T', 'O', 'O', 'L'] then
    match toolNamed operand with
    | some i => .ok (encode i)
    | none => .error .unknownForm
  else .error .unknownForm

/-- A pseudo-instruction of one operand, by its name (R80). -/
def unaryPseudo (name : List Char) : Option (Byte → Pseudo) :=
  if name = ['L', 'I', 'T'] then some .lit
  else if name = ['S', 'E', 'T', 'X'] then some .setX
  else if name = ['S', 'E', 'T', 'Y'] then some .setY
  else if name = ['C', 'O', 'L', 'O', 'U', 'R', 'V'] then some .colourV
  else none

/-- A pseudo-instruction of two operands, by its name (R80). -/
def binaryPseudo (name : List Char) : Option (Byte → Byte → Pseudo) :=
  if name = ['M', 'O', 'V', 'E', 'T', 'O'] then some .moveTo
  else if name = ['F', 'I', 'L', 'L', 'T', 'O'] then some .fillTo
  else none

/-- An operand of a pseudo-instruction: 0 to 255 (R80). -/
def readByte (operand : List Char) : Except AsmError Byte :=
  (inRange 0 255 (readNumeral operand)).map fun v => BitVec.ofInt 8 v

/-- The bytes of a pseudo-instruction's expansion (R80). -/
def Pseudo.bytes (p : Pseudo) : List Byte := p.expand.map encode

/-- One line (R79): no byte for an empty line, else one, or those of a pseudo-instruction's expansion.
DESIGN CHOICE, log 22: R79 lists no form for a pseudo-instruction; R80 and P2 of spec/95_test_vectors.md write
`LIT w` and `MOVETO a, b`, so such a line is taken, its operands read as those of `.byte`. -/
def assembleLine (line : List Char) : Except AsmError (List Byte) :=
  match wordsOf [] (withoutComment line) with
  | [] => .ok []
  | [name, operand] =>
    match unaryPseudo name with
    | some p => (readByte operand).map fun w => (p w).bytes
    | none => (assembleWords name operand).map fun b => [b]
  | [name, a, [','], b] =>
    match binaryPseudo name with
    | some p => (readByte a).bind fun v => (readByte b).map fun w => (p v w).bytes
    | none => .error .unknownForm
  | _ => .error .unknownForm

/-- A text's lines: one instruction per line (R79). -/
def linesOf : List Char → List Char → List (List Char)
  | cur, [] => [cur.reverse]
  | cur, c :: cs => if c = '\n' then cur.reverse :: linesOf [] cs else linesOf (c :: cur) cs

/-- The bytes of a list of lines, in order; the first error ends it. -/
def assembleLines : List (List Char) → Except AsmError (List Byte)
  | [] => .ok []
  | l :: ls => (assembleLine l).bind fun bs => (assembleLines ls).map fun cs => bs ++ cs

/-- Assemble a text (R79). -/
def assemble (text : List Char) : Except AsmError (List Byte) := assembleLines (linesOf [] text)

/-- A natural number in decimal. -/
def writeNat (n : Nat) : List Char := Nat.toDigits 10 n

/-- An integer in decimal. -/
def writeInt (v : Int) : List Char :=
  if v < 0 then '-' :: writeNat v.natAbs else writeNat v.natAbs

/-- The name of a defined TOOL (R79). -/
def toolName (i : Instr) : Option (List Char) :=
  (toolNames.find? fun p => p.2 == i).map Prod.fst

/-- The line of an instruction (R79); `.byte` "is the only way to spell a reserved encoding". -/
def asmText (i : Instr) : List Char :=
  match i with
  | .dx d => ['D', 'X', ' '] ++ writeInt d.toInt
  | .dy d => ['D', 'Y', ' '] ++ writeInt d.toInt
  | .data f => ['D', 'A', 'T', 'A', ' '] ++ writeNat f.toNat
  | .toolReserved c => ['.', 'b', 'y', 't', 'e', ' '] ++ writeNat (joinByte 2 c).toNat
  | .toolNone | .toolLine | .toolBlock | .toolColour | .toolTargetX | .toolTargetY | .toolShow
  | .toolPause | .toolNextframe => ['T', 'O', 'O', 'L', ' '] ++ (toolName i).getD []

/-- The line of a pseudo-instruction, as R80 writes it. -/
def pseudoText (p : Pseudo) : List Char :=
  match p with
  | .lit w => ['L', 'I', 'T', ' '] ++ writeNat w.toNat
  | .setX w => ['S', 'E', 'T', 'X', ' '] ++ writeNat w.toNat
  | .setY w => ['S', 'E', 'T', 'Y', ' '] ++ writeNat w.toNat
  | .colourV v => ['C', 'O', 'L', 'O', 'U', 'R', 'V', ' '] ++ writeNat v.toNat
  | .moveTo a b => ['M', 'O', 'V', 'E', 'T', 'O', ' '] ++ writeNat a.toNat ++ [',', ' '] ++ writeNat b.toNat
  | .fillTo a b => ['F', 'I', 'L', 'L', 'T', 'O', ' '] ++ writeNat a.toNat ++ [',', ' '] ++ writeNat b.toNat

end Sys2Proof.Machine
end

