-- ==== Sys2Proof/Machine/Render.lean ====
section
/-! DEFINITION. Whole invocations (spec/45_session.md R180, R189, R190), in terms of `step`, and
straight runs of instructions, in terms of `exec`. -/

namespace Sys2Proof.Machine

/-- The instructions one after the other, as a stream without reserved bytes runs them (R57, R96). -/
def execAll : List Instr → State → Host.Outcome State Fault Refusal
  | [], s => .next s
  | i :: is, s =>
    match exec i s with
    | .next t => execAll is t
    | .fault f => .fault f
    | .refused r => .refused r

/-- At most `n` steps of the running invocation, up to its return. -/
def runInvocation : Nat → State → Host.Outcome State Fault Refusal
  | 0, s => .next s
  | n + 1, s =>
    match s.phase with
    | .idle => .next s
    | .running =>
      match step s with
      | .next t => runInvocation n t
      | .fault f => .fault f
      | .refused r => .refused r

/-- The steps an invocation can take from here: one per byte left, and the one that ends it (R189). -/
def stepBound (s : State) : Nat := s.streamLen - s.start.toNat + 1

/-- `invoke(S)` (R180) on an idle block: Run, then the loop. The status is in `reply`, the events in `events`. -/
def invoke (s : State) : Host.Outcome State Fault Refusal :=
  runInvocation (stepBound (hostRun s)) (hostRun s)

/-- What one invocation gives the host. -/
abbrev Shown := Option HostReply × List Event

/-- `n` invocations one after the other (R190): what each gives the host, and the state after them. -/
def playback : Nat → State → List Shown × State
  | 0, s => ([], s)
  | n + 1, s =>
    match invoke s with
    | .next t => ((t.reply, t.events) :: (playback n t).1, (playback n t).2)
    | .fault _ => ([], s)
    | .refused _ => ([], s)

end Sys2Proof.Machine
end

