-- ==== Sys2Proof/Safety.lean ====
section
/-! DEFINITION. What holds in every state a run reaches: the invariant `MachineInv`, the initial record `S`, and
the words claims about fields are said in. -/

namespace Sys2Proof.Machine

/-- The invariant of the machine. It holds at reset and every step keeps it. -/
structure MachineInv (s : State) : Prop where
  /-- The stream is in its canonical form. -/
  streamWf : Memory.wf s.stream
  /-- The stream lists offsets below `L` only (R50). -/
  streamBelow : ∀ c ∈ s.stream, c.1 < s.streamLen
  /-- `L <= 2^32 - 1` (R7, D15). -/
  lenBound : s.streamLen ≤ Config.maxStreamLen
  /-- No fault, no fault information (R27, R28). -/
  faultClear : s.fault = false → s.faultCode = 0 ∧ s.faultByte = 0 ∧ s.faultAt = 0
  /-- A faulted block is idle, its code is RESERVED_TOOL, and its fault fields name a reserved byte of the
  stream (R28, R200). -/
  faultSet : s.fault = true →
    s.phase = .idle ∧ s.launched = true ∧ s.faultCode = 1 ∧ 137 ≤ s.faultByte.toNat ∧
      s.faultByte.toNat ≤ 191 ∧ s.faultAt.toNat < s.streamLen ∧
      Memory.read s.stream s.faultAt.toNat = s.faultByte
  /-- A running invocation has no `end` and no reply yet, and the stream is fixed (R180, R58). -/
  running : s.phase = .running → s.endFlag = false ∧ s.launched = true ∧ s.reply = none

/-- Two states agree on every field of the record `S` (R20). -/
def SameRecord (s t : State) : Prop :=
  s.x = t.x ∧ s.y = t.y ∧ s.tx = t.tx ∧ s.ty = t.ty ∧ s.tool = t.tool ∧ s.data = t.data ∧
    s.start = t.start ∧ s.endFlag = t.endFlag ∧ s.fault = t.fault ∧ s.faultCode = t.faultCode ∧
    s.faultByte = t.faultByte ∧ s.faultAt = t.faultAt ∧ s.phase = t.phase

/-- Two states agree on the stream, and on what only the host's side of the model holds: the pending moves
and the launch bit. -/
def SameStream (s t : State) : Prop :=
  s.stream = t.stream ∧ s.streamLen = t.streamLen ∧ s.launched = t.launched ∧ s.hostMoves = t.hostMoves

/-- The instruction at an offset of the stream. -/
def instrAt (s : State) (a : Nat) : Instr := decodeByte (Memory.read s.stream a)

/-- The instruction is one of the nine defined TOOLs (R120). -/
def isDefinedTool : Instr → Bool
  | .toolNone | .toolLine | .toolBlock | .toolColour | .toolTargetX | .toolTargetY
  | .toolShow | .toolPause | .toolNextframe => true
  | .dx _ | .dy _ | .data _ | .toolReserved _ => false

/-- The instruction is a TOOL with a reserved sub-opcode (R130). -/
def isReserved : Instr → Bool
  | .toolReserved _ => true
  | .dx _ | .dy _ | .data _ | .toolNone | .toolLine | .toolBlock | .toolColour | .toolTargetX
  | .toolTargetY | .toolShow | .toolPause | .toolNextframe => false

/-- The field of a DATA instruction; nothing for the others. -/
def fieldOf : Instr → Option Field6
  | .data f => some f
  | .dx _ | .dy _ | .toolNone | .toolLine | .toolBlock | .toolColour | .toolTargetX
  | .toolTargetY | .toolShow | .toolPause | .toolNextframe | .toolReserved _ => none

/-- The running block is about to execute `i`: it has not faulted, and `i` is the instruction at `start`,
below `L` (R93). -/
def AboutTo (i : Instr) (s : State) : Prop :=
  s.phase = .running ∧ s.fault = false ∧ s.start.toNat < s.streamLen ∧ instrAt s s.start.toNat = i

/-- The host can start an invocation that takes steps: the block is idle and has not faulted (R180). -/
def Ready (s : State) : Prop := s.phase = .idle ∧ s.fault = false

/-- Every field of `S` has its initial value (R33). -/
def Initial (s : State) : Prop := SameRecord s State.reset

/-- The NEXTFRAMEs among the first `n` offsets of the stream. -/
def countNextframes (s : State) : Nat → Nat
  | 0 => 0
  | n + 1 => countNextframes s n + if instrAt s n = .toolNextframe then 1 else 0

/-- The exact value of a chain of fields from `a`: base 64, most significant digit first (R141). -/
def chainValue (a : Nat) (fs : List Field6) : Nat := fs.foldl (fun n f => n * 64 + f.toNat) a

end Sys2Proof.Machine
end

