-- ==== Sys2Proof/Certificates/Slice0/Obligations.lean ====
section
/-! DEFINITION. The statements for the provers, in the order of OBLIGATIONS.json. A clause
`exec i s = .next ⟨s with …⟩` gives the fields that change and says that every other field of the state,
the stream among them, is unchanged. -/

open Sys2Proof Sys2Proof.Machine

/-! ### Decode and encode -/

/-- R92. -/
def Obligations.DeltaIsTheSignExtendedOperand : Prop :=
  (∀ opnd : Field6, ∃ d : Coord,
    decodeByte (joinByte 0 opnd) = .dx d ∧ decodeByte (joinByte 1 opnd) = .dy d ∧
      (opnd.getLsbD 5 = false → d.toInt = opnd.toNat) ∧
      (opnd.getLsbD 5 = true → d.toInt = (opnd.toNat : Int) - 64)) ∧
  decodeByte 0x1F = .dx 31 ∧ decodeByte 0x20 = .dx (-32) ∧ decodeByte 0x3F = .dx (-1) ∧
  decodeByte 0x5F = .dy 31 ∧ decodeByte 0x7F = .dy (-1)

/-- spec/95_test_vectors.md section 3. -/
def Obligations.SampleBytesDecodeAsTabulated : Prop :=
  decodeByte 0x00 = .dx 0 ∧ decodeByte 0x3E = .dx (-2) ∧ decodeByte 0x43 = .dy 3 ∧
  decodeByte 0x60 = .dy (-32) ∧ decodeByte 0x80 = .toolNone ∧ decodeByte 0x83 = .toolColour ∧
  decodeByte 0x84 = .toolTargetX ∧ decodeByte 0x88 = .toolNextframe ∧
  decodeByte 0x89 = .toolReserved 9 ∧ decodeByte 0xBF = .toolReserved 63 ∧
  decodeByte 0xC0 = .data 0 ∧ decodeByte 0xCA = .data 10 ∧ decodeByte 0xFF = .data 63

/-- R72: the opcode's byte range fixes the opcode and the form of its operand. -/
def Obligations.OpcodeRangesFixTheInstruction : Prop :=
  ∀ b : Byte,
    (b.toNat ≤ 63 → ∃ d, decodeByte b = .dx d ∧ d.toInt = if b.toNat < 32 then (b.toNat : Int) else b.toNat - 64) ∧
    (64 ≤ b.toNat → b.toNat ≤ 127 →
      ∃ d, decodeByte b = .dy d ∧ d.toInt = if b.toNat < 96 then (b.toNat : Int) - 64 else b.toNat - 128) ∧
    (128 ≤ b.toNat → b.toNat ≤ 191 → ∃ c, decodeByte b = decodeTool c ∧ c.toNat = b.toNat - 128 ∧
      (isDefinedTool (decodeByte b) = true ∨ isReserved (decodeByte b) = true)) ∧
    (192 ≤ b.toNat → ∃ f, decodeByte b = .data f ∧ f.toNat = b.toNat - 192)

/-- R74 and R75: the nine sub-opcode numbers, in the order of the source's list (the spec's own reading, D5),
and every other sub-opcode reserved (D6). -/
def Obligations.ToolSubopcodeNumbers : Prop :=
  ∀ c : Field6,
    (c.toNat ≤ 8 → some (decodeByte (joinByte 2 c)) = [Instr.toolNone, .toolLine, .toolBlock, .toolColour,
      .toolTargetX, .toolTargetY, .toolShow, .toolPause, .toolNextframe][c.toNat]?) ∧
    (9 ≤ c.toNat → decodeByte (joinByte 2 c) = .toolReserved c)

/-- R78: exactly one row of the opcode table holds a byte, and the decoder gives that row's instruction;
a reserved row holds it exactly when the decoder gives the reserved class. -/
def Obligations.EveryByteIsInExactlyOneTableRow : Prop :=
  ∀ b : Byte,
    (opcodeRows.filter (·.holds b)).map (·.mnemonic) = [(decodeByte b).mnemonic] ∧
      (isReserved (decodeByte b) = true ↔ ∃ r ∈ reservedRows, r.holds b = true)

/-- R91. -/
def Obligations.DecodeAndEncodeAgree : Prop :=
  (∀ i : Instr, i.wellFormed = true → decodeByte (encode i) = i) ∧
  (∀ b : Byte, encode (decodeByte b) = b ∧ (decodeByte b).wellFormed = true) ∧
  (∀ d : Coord, (encode (.dx d)).toNat = d.toNat % 64 ∧ (encode (.dy d)).toNat = 64 + d.toNat % 64) ∧
  [Instr.toolNone, .toolLine, .toolBlock, .toolColour, .toolTargetX, .toolTargetY, .toolShow,
    .toolPause, .toolNextframe].map encode = [0x80, 0x81, 0x82, 0x83, 0x84, 0x85, 0x86, 0x87, 0x88] ∧
  (∀ f : Field6, (encode (.data f)).toNat = 192 + f.toNat ∧ (encode (.toolReserved f)).toNat = 128 + f.toNat)

/-! ### The step and the instructions -/

/-- The step runs the instruction decoded from the byte at `start`, and adds R180's two tests after it. -/
def Obligations.StepRunsTheDecodedInstruction : Prop :=
  ∀ (s t : State) (b : Byte), s.phase = .running → s.fault = false → memRead s s.start.toNat = .ok b →
    exec (decodeByte b) s = .next t →
      (t.fault = true → step s = .next { t with phase := .idle, reply := some (.status .fault) }) ∧
      (t.fault = false → t.endFlag = true →
        step s = .next { t with phase := .idle, reply := some (.status .frame) }) ∧
      (t.fault = false → t.endFlag = false → step s = .next t)

/-- R110. -/
def Obligations.DxStagesTheTarget : Prop :=
  (∀ opnd : Field6, decodeByte (joinByte 0 opnd) = .dx (opnd.signExtend 32)) ∧
  (∀ (d : Coord) (s : State), ∃ t : State,
    exec (.dx d) s = .next t ∧ t.tx.toInt = (s.tx.toInt + d.toInt).bmod (2 ^ 32) ∧
      t = { s with tx := s.tx + d, start := s.start + 1 }) ∧
  (∀ s : State, exec (decodeByte 0x00) s = .next { s with start := s.start + 1 }) ∧
  (∀ s t : State, s.tx.toInt = 2147483647 → exec (.dx 1) s = .next t → t.tx.toInt = -2147483648) ∧
  (∀ s : State, execAll [.dx 31, .dx 31] s = .next { s with tx := s.tx + 62, start := s.start + 2 }) ∧
  (∀ s t : State, s.tx = 0 → exec (decodeByte 0x3E) s = .next t → t.tx.toInt = -2)

/-- R111 and R112. -/
def Obligations.DyDrawsThenCommits : Prop :=
  (∀ opnd : Field6, decodeByte (joinByte 1 opnd) = .dy (opnd.signExtend 32)) ∧
  (∀ (d : Coord) (s : State), ∃ t : State,
    exec (.dy d) s = .next t ∧ t.ty.toInt = (s.ty.toInt + d.toInt).bmod (2 ^ 32) ∧
      t.x = t.tx ∧ t.y = t.ty ∧
      t = { s with ty := s.ty + d, x := s.tx, y := s.ty + d, events := t.events, start := s.start + 1 } ∧
      (s.tool = .none → t.events = s.events) ∧
      (s.tool = .line → t.events = s.events ++ [.drawLine s.x s.y s.tx (s.ty + d)]) ∧
      (s.tool = .block → t.events = s.events ++ [.drawBlock s.x s.y (s.tx - s.x) (s.ty + d - s.y)])) ∧
  (∀ s t : State, s.ty.toInt = -2147483648 → exec (.dy (-1)) s = .next t → t.ty.toInt = 2147483647) ∧
  (∀ s t : State, s.x = 0 → s.y = 0 → s.tx = 5 → s.ty = 0 → s.tool = .line →
    exec (decodeByte 0x43) s = .next t →
      t.events = s.events ++ [.drawLine 0 0 5 3] ∧ t.x = 5 ∧ t.y = 3 ∧ t.tx = 5 ∧ t.ty = 3)

/-- R35: a DY right after reset has each of the three meanings, according to RESET_TOOL. -/
def Obligations.FirstDyFollowsResetTool : Prop :=
  ∀ d : Coord, ∃ t : State, exec (.dy d) State.reset = .next t ∧
    (Config.resetTool = .none → t.events = []) ∧
    (Config.resetTool = .line → t.events = [.drawLine 0 0 0 d]) ∧
    (Config.resetTool = .block → t.events = [.drawBlock 0 0 0 d])

/-- R121, R122, R123. -/
def Obligations.ToolModesAreSelected : Prop :=
  decodeByte 0x80 = .toolNone ∧ decodeByte 0x81 = .toolLine ∧ decodeByte 0x82 = .toolBlock ∧
  (∀ s : State,
    exec .toolNone s = .next { s with tool := .none, data := 0, start := s.start + 1 } ∧
    exec .toolLine s = .next { s with tool := .line, data := 0, start := s.start + 1 } ∧
    exec .toolBlock s = .next { s with tool := .block, data := 0, start := s.start + 1 }) ∧
  (∀ (s : State) (d : Coord), ∃ t, execAll [.toolNone, .dy d] s = .next t ∧ t.events = s.events ∧
    t.x = s.tx ∧ t.y = s.ty + d) ∧
  (∀ s : State, ∃ t, execAll [.toolLine, .dy 0] s = .next t ∧
    t.events = s.events ++ [.drawLine s.x s.y s.tx s.ty]) ∧
  (∀ s : State, s.x = 10 → s.y = 0 → s.tx = 74 → s.ty = 1 → ∃ t,
    execAll [.toolBlock, .dy 0] s = .next t ∧ t.events = s.events ++ [.drawBlock 10 0 64 1])

/-- R124. -/
def Obligations.ColourSendsTheAccumulator : Prop :=
  decodeByte 0x83 = .toolColour ∧
  (∀ s : State, exec .toolColour s =
    .next { s with events := s.events ++ [.setColour s.data], data := 0, start := s.start + 1 }) ∧
  (∀ (v : Byte) (s : State), s.data = 0 → ∃ (t : State) (c : Acc),
    execAll ((colourEncode v).toList.map Instr.data ++ [.toolColour]) s = .next t ∧
      t.events = s.events ++ [.setColour c] ∧ c.toNat = v.toNat * 2 ^ 18 + v.toNat * 2 ^ 10 + v.toNat * 2 ^ 2 + 3) ∧
  (∀ s : State, s.data = 0 → ∃ t : State,
    execAll [.data 2, .data 50, .data 44, .data 43, .data 11, .toolColour] s = .next t ∧
      t.events = s.events ++ [.setColour 46844619] ∧ t.data = 0)

/-- R125 and R126. -/
def Obligations.TargetsTakeTheAccumulator : Prop :=
  decodeByte 0x84 = .toolTargetX ∧ decodeByte 0x85 = .toolTargetY ∧
  (∀ s : State, ∃ t u : State,
    exec .toolTargetX s = .next t ∧ t = { s with tx := t.tx, data := 0, start := s.start + 1 } ∧
      t.tx.toInt = (s.data.toNat : Int).bmod (2 ^ 32) ∧
    exec .toolTargetY s = .next u ∧ u = { s with ty := u.ty, data := 0, start := s.start + 1 } ∧
      u.ty.toInt = (s.data.toNat : Int).bmod (2 ^ 32)) ∧
  (∀ s t : State, s.data = 0xFFFFFFFF → exec .toolTargetX s = .next t → t.tx.toInt = -1) ∧
  (∀ s t : State, s.data = 0xFFFFFFFF → exec .toolTargetY s = .next t → t.ty.toInt = -1) ∧
  (∀ s t : State, s.data = 0 → exec .toolTargetX s = .next t → t.tx = 0) ∧
  (∀ s t : State, s.data = 0 → exec .toolTargetY s = .next t → t.ty = 0) ∧
  (∀ (d : Coord) (s t u : State), execAll [.dx d, .toolTargetX] s = .next t →
    exec .toolTargetX s = .next u → t.tx = u.tx) ∧
  (∀ s : State, s.data = 0 → ∃ t : State,
    execAll [.data 1, .data 10, .toolTargetX] s = .next t ∧ t.tx = 74 ∧ t.data = 0) ∧
  (∀ s : State, s.data = 0 → ∃ t : State,
    execAll [.data 0, .toolTargetY] s = .next t ∧ t.ty = 0)

/-- R127 and R128. -/
def Obligations.ShowAndPauseEmit : Prop :=
  decodeByte 0x86 = .toolShow ∧ decodeByte 0x87 = .toolPause ∧
  (∀ s : State,
    exec .toolShow s =
      .next { s with events := s.events ++ [.present], data := 0, start := s.start + 1 } ∧
    exec .toolPause s =
      .next { s with events := s.events ++ [.pause s.data], data := 0, start := s.start + 1 }) ∧
  (∀ s t : State, MachineInv s → AboutTo .toolShow s ∨ AboutTo .toolPause s → step s = .next t →
    t.phase = .running ∧ t.start.toNat = s.start.toNat + 1) ∧
  (∀ s : State, s.data = 0 → ∃ t u : State,
    exec .toolPause s = .next t ∧ t.events = s.events ++ [.pause 0] ∧
    execAll [.data 7, .toolPause] s = .next u ∧ u.events = s.events ++ [.pause 7])

/-- R129 (D14 for the invocation's order): the instruction, and the invocation that it ends. -/
def Obligations.NextframeMarksTheBoundary : Prop :=
  decodeByte 0x88 = .toolNextframe ∧
  (∀ s : State, exec .toolNextframe s =
    .next { s with endFlag := true, data := 0, start := s.start + 1 }) ∧
  (∀ s : State, MachineInv s → AboutTo .toolNextframe s → ∃ t : State, step s = .next t ∧
    t.start.toNat = s.start.toNat + 1 ∧ t.endFlag = true ∧ t.data = 0 ∧
    t.phase = .idle ∧ t.reply = some (.status .frame)) ∧
  (∀ s : State, MachineInv s → AboutTo .toolNextframe s → s.start.toNat + 1 = s.streamLen →
    ∃ t u : State, step s = .next t ∧ t.start.toNat = s.streamLen ∧
      t.reply = some (.status .frame) ∧
      invoke t = .next u ∧ u.reply = some (.status .exhausted) ∧ u.events = []) ∧
  (∀ s : State, MachineInv s → AboutTo .toolNextframe s → s.start.toNat + 1 < s.streamLen →
    instrAt s (s.start.toNat + 1) = .toolNextframe →
    ∃ t u : State, step s = .next t ∧ invoke t = .next u ∧ u.reply = some (.status .frame) ∧
      u = { t with start := t.start + 1, events := [] })

/-- R130, with R200 and R204 (the exception is the spec's own decision, D6 and D24): a reserved TOOL writes the four fault fields and nothing else, `start` stays
at its byte, and the invocation returns FAULT. -/
def Obligations.ReservedToolRaisesTheFault : Prop :=
  (∀ b : Byte, 137 ≤ b.toNat → b.toNat ≤ 191 → ∃ c : Field6,
    decodeByte b = .toolReserved c ∧ 9 ≤ c.toNat ∧
      ∀ s : State, exec (.toolReserved c) s =
        .next { s with fault := true, faultCode := 1, faultByte := b, faultAt := s.start }) ∧
  (∀ (c : Field6) (s : State), 9 ≤ c.toNat → AboutTo (.toolReserved c) s → ∃ (t : State) (b : Byte),
    memRead s s.start.toNat = .ok b ∧ step s = .next t ∧
      t = { s with fault := true, faultCode := 1, faultByte := b, faultAt := s.start,
                   phase := .idle, reply := some (.status .fault) }) ∧
  (∀ s t : State, s.start = 12 → exec (decodeByte 0x89) s = .next t →
    t.fault = true ∧ t.faultByte = 0x89 ∧ t.faultAt = 12 ∧ t.start = 12)

/-- R120: what the nine defined TOOLs have in common. The value of `data` on entry is the one used; the five that
do not read it do the same whatever it is. -/
def Obligations.DefinedToolsClearData : Prop :=
  ∀ (i : Instr) (s : State), isDefinedTool i = true → ∃ t : State,
    exec i s = .next t ∧ t.data = 0 ∧ t.x = s.x ∧ t.y = s.y ∧ t.start = s.start + 1 ∧
    t = { s with tx := t.tx, ty := t.ty, tool := t.tool, data := 0, endFlag := t.endFlag,
                 events := t.events, start := s.start + 1 } ∧
    (∀ (a b : Coord) (p : Offset), exec i { s with x := a, y := b, start := p } =
      .next { t with x := a, y := b, start := p + 1 }) ∧
    (i = .toolColour → t.events = s.events ++ [.setColour s.data]) ∧
    (i = .toolPause → t.events = s.events ++ [.pause s.data]) ∧
    (i = .toolTargetX → t.tx.toInt = s.data.toInt) ∧ (i = .toolTargetY → t.ty.toInt = s.data.toInt) ∧
    (i = .toolNone ∨ i = .toolLine ∨ i = .toolBlock ∨ i = .toolShow ∨ i = .toolNextframe →
      ∀ v : Acc, exec i { s with data := v } = .next t)

/-- R140. -/
def Obligations.DataShiftsAFieldIn : Prop :=
  (∀ f : Field6, decodeByte (joinByte 3 f) = .data f) ∧
  (∀ (f : Field6) (s : State), ∃ t : State,
    exec (.data f) s = .next t ∧ t = { s with data := t.data, start := s.start + 1 } ∧
      t.data.toNat = (s.data.toNat * 64 + f.toNat) % 2 ^ 32) ∧
  (∀ s t : State, s.data = 5 → exec (.data 0) s = .next t → t.data = 320) ∧
  (∀ s : State, s.data = 0 → ∃ t u : State,
    execAll [.data 63, .data 63, .data 63, .data 63, .data 63, .data 63] s = .next t ∧
      t.data = 0xFFFFFFFF ∧
    execAll [.data 1, .data 10] s = .next u ∧ u.data = 74) ∧
  (∀ (fs : List Field6) (s : State), s.data = 0 → fs.length ≤ 5 → ∃ t : State,
    execAll (fs.map Instr.data) s = .next t ∧
      t.data.toNat = fs.foldl (fun n f => n * 64 + f.toNat) 0) ∧
  (∀ (f g : Field6) (d : Coord) (s : State), ∃ t u v : State,
    execAll [.data f, .data g] s = .next t ∧ execAll [.data f, .dx d, .data g] s = .next u ∧
      execAll [.data f, .dy d, .data g] s = .next v ∧ u.data = t.data ∧ v.data = t.data)

/-- R141: a chain of DATA instructions, with any DX and DY among them, and no TOOL. -/
def Obligations.ChainAccumulatesBase64 : Prop :=
  (∀ (is : List Instr) (s : State), (∀ i ∈ is, isDefinedTool i = false ∧ isReserved i = false) →
    ∃ t : State, execAll is s = .next t ∧
      t.data.toNat = chainValue s.data.toNat (is.filterMap fieldOf) % 2 ^ 32) ∧
  (∀ (fs : List Field6) (s : State), s.data = 0 → fs.length ≤ 5 →
    ∃ t : State, execAll (fs.map Instr.data) s = .next t ∧ t.data.toNat = chainValue 0 fs) ∧
  (∀ (a : Nat) (fs : List Field6) (f : Field6),
    chainValue a [] = a ∧ chainValue a (f :: fs) = chainValue 0 fs + (a * 64 + f.toNat) * 64 ^ fs.length)

/-- R142: from six fields on, the exact value's bits from 32 up are lost. -/
def Obligations.SixFieldsOverflowTheAccumulator : Prop :=
  (∀ fs : List Field6, fs.length ≤ 5 → chainValue 0 fs < 2 ^ 30) ∧
  (∀ (fs : List Field6) (f : Field6) (s : State), s.data = 0 → fs.length = 5 → ∃ t : State,
    execAll ((f :: fs).map Instr.data) s = .next t ∧
      t.data.toNat = (f.toNat % 4) * 2 ^ 30 + chainValue 0 fs)

/-- R143: DX and DY neither read nor clear `data`. -/
def Obligations.CursorInstructionsLeaveData : Prop :=
  (∀ (d : Coord) (s : State) (v : Acc), ∃ t u : State,
    exec (.dx d) s = .next t ∧ exec (.dx d) { s with data := v } = .next { t with data := v } ∧
    exec (.dy d) s = .next u ∧ exec (.dy d) { s with data := v } = .next { u with data := v } ∧
    t.data = s.data ∧ u.data = s.data) ∧
  (∀ s : State, s.data = 0 → ∃ t : State,
    execAll [.data 1, .dx 3, .data 2, .toolTargetY] s = .next t ∧ t.ty = 66)

/-! ### Frames over all instructions -/

/-- R95's column "state written": each field of `S` changes only by its writers. -/
def Obligations.FieldsChangeOnlyByTheirWriters : Prop :=
  ∀ (i : Instr) (s t : State), exec i s = .next t →
    ((∀ d, i ≠ .dy d) → t.x = s.x ∧ t.y = s.y) ∧
    ((∀ d, i ≠ .dx d) → i ≠ .toolTargetX → t.tx = s.tx) ∧
    ((∀ d, i ≠ .dy d) → i ≠ .toolTargetY → t.ty = s.ty) ∧
    (i ≠ .toolNone → i ≠ .toolLine → i ≠ .toolBlock → t.tool = s.tool) ∧
    ((∀ f, i ≠ .data f) → isDefinedTool i = false → t.data = s.data) ∧
    (i ≠ .toolNextframe → t.endFlag = s.endFlag) ∧
    (isReserved i = true → t.start = s.start) ∧ (isReserved i = false → t.start = s.start + 1) ∧
    (isReserved i = false → t.fault = s.fault ∧ t.faultCode = s.faultCode ∧
      t.faultByte = s.faultByte ∧ t.faultAt = s.faultAt) ∧
    t.phase = s.phase ∧ t.reply = s.reply ∧ t.launched = s.launched ∧ t.hostMoves = s.hostMoves

/-- R97: no instruction writes a byte of the stream or its length, and none reads them: with any other stream
it does the same. A step reads the byte at `start` alone. -/
def Obligations.InstructionsNeverAccessTheStream : Prop :=
  (∀ (i : Instr) (s t : State) (a : Nat), exec i s = .next t →
    memRead t a = memRead s a ∧ t.streamLen = s.streamLen) ∧
  (∀ (i : Instr) (s t : State) (m : Memory) (n : Nat), exec i s = .next t →
    exec i { s with stream := m, streamLen := n } = .next { t with stream := m, streamLen := n }) ∧
  (∀ (s t : State) (m : Memory), s.phase = .running → Memory.read m s.start.toNat = Memory.read s.stream s.start.toNat →
    step s = .next t → step { s with stream := m } = .next { t with stream := m })

/-- R25, R27, R30, R31: no instruction reads `end`, the fault fields, `phase` or the events. -/
def Obligations.InstructionsReadNoStatusAndNoOutput : Prop :=
  ∀ (i : Instr) (s s' t t' : State),
    s.x = s'.x → s.y = s'.y → s.tx = s'.tx → s.ty = s'.ty → s.tool = s'.tool → s.data = s'.data →
    s.start = s'.start → exec i s = .next t → exec i s' = .next t' →
      t.x = t'.x ∧ t.y = t'.y ∧ t.tx = t'.tx ∧ t.ty = t'.ty ∧ t.tool = t'.tool ∧ t.data = t'.data ∧
      t.start = t'.start ∧
      (∃ es, t.events = s.events ++ es ∧ t'.events = s'.events ++ es) ∧
      (i = .toolNextframe → t.endFlag = t'.endFlag) ∧
      (isReserved i = true → t.fault = t'.fault ∧ t.faultCode = t'.faultCode ∧ t.faultByte = t'.faultByte ∧
        t.faultAt = t'.faultAt)

/-- R94 and R187, with R95's column "event". -/
def Obligations.AtMostOneEventPerStep : Prop :=
  ∀ s t : State, s.phase = .running → step s = .next t → ∃ es : List Event,
    t.events = s.events ++ es ∧ es.length ≤ 1 ∧
      ((∀ d, ¬ AboutTo (.dy d) s) → ¬ AboutTo .toolColour s → ¬ AboutTo .toolShow s →
        ¬ AboutTo .toolPause s → es = [])

/-! ### Invariants and whole-machine rules -/

/-- Every step keeps the invariant. -/
def Obligations.StepKeepsTheInvariant : Prop :=
  ∀ s t : State, MachineInv s → step s = .next t → MachineInv t

/-- The invariant holds at reset. -/
def Obligations.ResetMeetsTheInvariant : Prop := MachineInv State.reset

/-- R51 and R201: no step stops the machine with a fault; a refusal answers only a move of the host. -/
def Obligations.OnlyHostMovesAreRefused : Prop :=
  ∀ s : State, (∀ f, step s ≠ .fault f) ∧
    (∀ r, step s = .refused r → s.phase = .idle ∧
      ((∃ bs ms, s.hostMoves = .load bs :: ms) ∨ ∃ c ms, s.hostMoves = .writeContinuation c :: ms))

/-- R96 and R24: what moves `start`. It never wraps. (That the host's moves stand in a list is the model's
choice, log 2.) -/
def Obligations.StartMovesOnlyByTheListedCauses : Prop :=
  ∀ s t : State, MachineInv s → step s = .next t →
    ((∃ i, AboutTo i s ∧ isReserved i = false) → t.start.toNat = s.start.toNat + 1) ∧
    (t.start ≠ s.start →
      (∃ i, AboutTo i s ∧ isReserved i = false) ∨
      (s.phase = .running ∧ s.streamLen ≤ s.start.toNat ∧ t.start = 0) ∨
      (s.phase = .idle ∧ ∃ ms, s.hostMoves = .reset :: ms ∧ t.start = 0) ∨
      (s.phase = .idle ∧ ∃ c ms, s.hostMoves = .writeContinuation c :: ms ∧ t.start.toNat = c.start))

/-- R21: the cursor moves only at a DY, at exhaustion, at a reset or by a restored continuation. (The list of
moves is the model's choice, log 2.) -/
def Obligations.CursorMovesOnlyByCommit : Prop :=
  ∀ s t : State, step s = .next t → (t.x ≠ s.x ∨ t.y ≠ s.y) →
    (∃ d, AboutTo (.dy d) s ∧ t.x = s.tx ∧ t.y = s.ty + d ∧ t.tx = t.x ∧ t.ty = t.y) ∨
    (s.phase = .running ∧ s.streamLen ≤ s.start.toNat ∧ t.x = 0 ∧ t.y = 0) ∨
    (s.phase = .idle ∧ ∃ ms, s.hostMoves = .reset :: ms ∧ t.x = 0 ∧ t.y = 0) ∨
    (s.phase = .idle ∧ ∃ c ms, s.hostMoves = .writeContinuation c :: ms ∧
      t.x.toInt = c.x ∧ t.y.toInt = c.y)

/-- R25 and R26: `tool` and `end` change only by their listed writers. (That the host's moves stand in a list is
the model's choice, log 2.) -/
def Obligations.ToolAndEndChangeOnlyByTheirWriters : Prop :=
  ∀ s t : State, step s = .next t →
    (t.tool ≠ s.tool →
      (AboutTo .toolNone s ∧ t.tool = .none) ∨ (AboutTo .toolLine s ∧ t.tool = .line) ∨
      (AboutTo .toolBlock s ∧ t.tool = .block) ∨
      (s.phase = .running ∧ s.streamLen ≤ s.start.toNat ∧ t.tool = Config.resetTool) ∨
      (s.phase = .idle ∧ ∃ ms, s.hostMoves = .reset :: ms ∧ t.tool = Config.resetTool) ∨
      (s.phase = .idle ∧ ∃ c ms, s.hostMoves = .writeContinuation c :: ms ∧
        (toolCode t.tool).toNat = c.tool)) ∧
    (t.endFlag ≠ s.endFlag →
      (AboutTo .toolNextframe s ∧ t.endFlag = true) ∨
      (s.phase = .running ∧ s.streamLen ≤ s.start.toNat ∧ t.endFlag = false) ∨
      (s.phase = .idle ∧ ∃ ms, (s.hostMoves = .run :: ms ∨ s.hostMoves = .reset :: ms) ∧ t.endFlag = false) ∨
      (s.phase = .idle ∧ ∃ c ms, s.hostMoves = .writeContinuation c :: ms ∧ t.endFlag.toNat = c.endFlag))

/-- R58 and R54: once an invocation has been started the stream is fixed, and it stays started. (`launched`
is the model's own field, log 7.) -/
def Obligations.StreamIsFixedOnceLaunched : Prop :=
  ∀ s t : State, s.launched = true → step s = .next t →
    t.launched = true ∧ t.streamLen = s.streamLen ∧ t.stream = s.stream ∧
      ∀ a, memRead t a = memRead s a

/-- R205 and R27 (the spec's own decision D24): only the host's Reset clears a fault; nothing else changes its
record. (The list of moves is the model's choice, log 2.) -/
def Obligations.OnlyResetClearsTheFault : Prop :=
  ∀ s t : State, MachineInv s → s.fault = true → step s = .next t →
    (t.fault = true ∧ t.faultCode = s.faultCode ∧ t.faultByte = s.faultByte ∧ t.faultAt = s.faultAt ∧
      t.phase = .idle) ∨
    (∃ ms, s.hostMoves = .reset :: ms ∧ t.fault = false ∧ t.faultCode = 0 ∧ t.faultByte = 0 ∧ t.faultAt = 0)

/-- R210: the idle block waits unchanged, and only a Run wakes it. R202 and R188: a step of the running block
neither takes nor reads a move of the host. (That the moves stand in a list is the model's choice, log 2.) -/
def Obligations.OnlyRunWakesTheIdleBlock : Prop :=
  (∀ s t : State, s.phase = .idle → step s = .next t →
    (s.hostMoves = [] → t = s) ∧
    (t.phase = .running → ∃ ms, s.hostMoves = .run :: ms ∧ s.fault = false)) ∧
  (∀ (s t : State) (ms : List HostMove), s.phase = .running → step s = .next t →
    t.hostMoves = s.hostMoves ∧ step { s with hostMoves := ms } = .next { t with hostMoves := ms })

/-! ### Reset and the host -/

/-- R220, with the values of R33, which are the spec's own decision D8. -/
def Obligations.ResetWritesTheInitialValues : Prop :=
  (∀ s : State, ∃ t : State, hostMove .reset s = .next t ∧
    t.x = 0 ∧ t.y = 0 ∧ t.tx = 0 ∧ t.ty = 0 ∧ t.data = 0 ∧ t.start = 0 ∧ t.endFlag = false ∧
    t.tool = Config.resetTool ∧ t.fault = false ∧ t.faultCode = 0 ∧ t.faultByte = 0 ∧ t.faultAt = 0 ∧
    t.phase = .idle ∧ t.events = s.events ∧ t.stream = s.stream ∧ t.streamLen = s.streamLen ∧
    Initial t) ∧
  State.reset.x = 0 ∧ State.reset.y = 0 ∧ State.reset.tx = 0 ∧ State.reset.ty = 0 ∧
  State.reset.data = 0 ∧ State.reset.start = 0 ∧ State.reset.endFlag = false ∧
  State.reset.tool = Config.resetTool ∧ State.reset.fault = false ∧ State.reset.phase = .idle

/-- R188's row Load stream, with R51 and R58: what was loaded is what is fetched, and a load after the first
invocation is refused. (The `launched` bit is the model's own, log 7.) -/
def Obligations.LoadedBytesAreFetched : Prop :=
  (∀ (bytes : List Byte) (s : State), s.launched = false → bytes.length ≤ 4294967295 → ∃ t : State,
    hostMove (.load bytes) s = .next t ∧ t.streamLen = bytes.length ∧ Memory.wf t.stream ∧
      (∀ (a : Nat) (h : a < bytes.length), memRead t a = .ok bytes[a]) ∧
      (∀ a, bytes.length ≤ a → memRead t a = .error .readOutsideStream) ∧ SameRecord s t) ∧
  (∀ (bytes : List Byte) (s : State), s.launched = true →
    hostMove (.load bytes) s = .refused .streamRewritten) ∧
  (∀ (bytes : List Byte) (s : State), s.launched = false → 4294967295 < bytes.length →
    hostMove (.load bytes) s = .refused .streamTooLong)

/-- R32, with the numbers of R26: the continuation, read and replaced. (That a written continuation empties the
reply is the model's choice, log 6; R188 says that the host gets nothing back.) -/
def Obligations.ContinuationIsSavedAndRestored : Prop :=
  toolCode .none = 0 ∧ toolCode .line = 1 ∧ toolCode .block = 2 ∧
  (∀ s : State, ∃ t : State, hostMove .readContinuation s = .next t ∧
    t = { s with reply := some (.continuation ⟨s.x.toInt, s.y.toInt, s.tx.toInt, s.ty.toInt,
      (toolCode s.tool).toNat, s.data.toNat, s.start.toNat, s.endFlag.toNat⟩) }) ∧
  (∀ s u : State, ∃ t : State, hostMove (.writeContinuation (continuationOf s)) u = .next t ∧
    t = { u with x := s.x, y := s.y, tx := s.tx, ty := s.ty, tool := s.tool, data := s.data,
                 start := s.start, endFlag := s.endFlag, reply := none }) ∧
  (∀ (c : ContinuationTuple) (s : State),
    ((∀ v ∈ [c.x, c.y, c.tx, c.ty], -2147483648 ≤ v ∧ v ≤ 2147483647) ∧ c.tool ≤ 2 ∧
        c.data < 4294967296 ∧ c.start < 4294967296 ∧ c.endFlag ≤ 1 →
      ∃ t : State, hostMove (.writeContinuation c) s = .next t ∧ continuationOf t = c ∧
        t.fault = s.fault ∧ t.faultCode = s.faultCode ∧ t.faultByte = s.faultByte ∧
        t.faultAt = s.faultAt) ∧
    (¬ ((∀ v ∈ [c.x, c.y, c.tx, c.ty], -2147483648 ≤ v ∧ v ≤ 2147483647) ∧ c.tool ≤ 2 ∧
        c.data < 4294967296 ∧ c.start < 4294967296 ∧ c.endFlag ≤ 1) →
      hostMove (.writeContinuation c) s = .refused .continuationRefused)) ∧
  (∀ s : State, Ready s → s.streamLen ≤ s.start.toNat → ∃ t : State, invoke s = .next t ∧
    t.reply = some (.status .exhausted))

/-- R223 and R222: load, Reset and Run bring the block to offset 0 of the loaded stream. (The list of moves is
the model's choice, log 2.) -/
def Obligations.BootReachesOffsetZero : Prop :=
  ∀ (bytes : List Byte) (ms : List HostMove) (s : State), s.phase = .idle → s.launched = false →
    bytes.length ≤ 4294967295 → s.hostMoves = .load bytes :: .reset :: .run :: ms → ∃ t : State,
      Host.Core.run core 3 s = .next t ∧ t.phase = .running ∧ t.start = 0 ∧ t.fault = false ∧
      t.tool = Config.resetTool ∧ t.streamLen = bytes.length ∧ t.hostMoves = ms ∧ t.events = [] ∧
      ∀ (a : Nat) (h : a < bytes.length), memRead t a = .ok bytes[a]

/-! ### Invocations -/

/-- R180's entry (the spec's own decisions D14 and D24): Run clears `end` and begins, or returns FAULT at once on a
faulted block. (`reply` and `launched` are how the model holds what R181 and R188 say, log 6 and log 7.) -/
def Obligations.RunClearsEndAndBegins : Prop :=
  ∀ s : State, ∃ t : State, hostMove .run s = .next t ∧
    (s.fault = false → t = { s with phase := .running, endFlag := false, events := [], reply := none,
                                    launched := true }) ∧
    (s.fault = true → t = { s with events := [], reply := some (.status .fault) })

/-- R182. -/
def Obligations.ExhaustionReturnsToTheInitialState : Prop :=
  (∀ s : State, s.phase = .running → s.fault = false → s.streamLen ≤ s.start.toNat →
    ∃ t : State, step s = .next t ∧
      t = { s with x := 0, y := 0, tx := 0, ty := 0, data := 0, start := 0, endFlag := false,
                   tool := Config.resetTool, phase := .idle, reply := some (.status .exhausted) }) ∧
  (∀ s : State, Ready s → s.streamLen ≤ s.start.toNat ∨ s.streamLen = 0 → ∃ t : State,
    invoke s = .next t ∧ t.reply = some (.status .exhausted) ∧ t.events = []) ∧
  (∀ s : State, MachineInv s → AboutTo .toolNextframe s → s.start.toNat + 1 = s.streamLen → ∃ t u : State,
    step s = .next t ∧ invoke t = .next u ∧ u.reply = some (.status .exhausted) ∧ u.events = [])

/-- R221: after exhaustion the record `S` is what Reset leaves. -/
def Obligations.ExhaustionEqualsReset : Prop :=
  ∀ s : State, MachineInv s → s.phase = .running → s.streamLen ≤ s.start.toNat → ∃ t u : State,
    step s = .next t ∧ hostMove .reset s = .next u ∧ SameRecord t u ∧ Initial t ∧ SameStream t u

/-- R183. -/
def Obligations.FrameSuspensionKeepsTheState : Prop :=
  ∀ s t : State, MachineInv s → s.phase = .running → step s = .next t → t.endFlag = true →
    AboutTo .toolNextframe s ∧ t.start.toNat = s.start.toNat + 1 ∧
    t = { s with endFlag := true, data := 0, start := t.start, phase := .idle,
                 reply := some (.status .frame) }

/-- R184. -/
def Obligations.ResumeContinuesAtStart : Prop :=
  ∀ s : State, MachineInv s → Ready s → s.start.toNat < s.streamLen →
    (∃ t : State, hostMove .run s = .next t ∧ t.endFlag = false ∧ t.start = s.start ∧
      AboutTo (instrAt s s.start.toNat) t) ∧
    (∀ (k : Nat) (t u : State), hostMove .run s = .next t → runInvocation k t = .next u →
      u.phase = .running → s.start.toNat ≤ u.start.toNat)

/-- R185: every invocation of a faulted block returns FAULT with no step and no event, until a Reset. -/
def Obligations.FaultedBlockRunsNothing : Prop :=
  (∀ s : State, s.phase = .idle → s.fault = true → ∃ t : State,
    invoke s = .next t ∧ t = { s with events := [], reply := some (.status .fault) }) ∧
  (∀ (n : Nat) (s : State), s.phase = .idle → s.fault = true →
    (playback n s).1 = List.replicate n (some (.status .fault), []) ∧
      (playback n s).2.fault = true ∧ (playback n s).2.start = s.start) ∧
  (∀ s : State, s.phase = .idle → ∃ t : State, hostMove .reset s = .next t ∧ Ready t)

/-- R181 (FAULT is the spec's own decision, D6): how an invocation ends, and the state it leaves. -/
def Obligations.InvocationEndsInOneOfThreeWays : Prop :=
  ∀ s : State, MachineInv s → s.phase = .idle → ∃ t : State, invoke s = .next t ∧ t.phase = .idle ∧
    ((t.reply = some (.status .frame) ∧ t.fault = false ∧ t.endFlag = true ∧ 0 < t.start.toNat ∧
        t.start.toNat ≤ t.streamLen ∧ instrAt t (t.start.toNat - 1) = .toolNextframe) ∨
     (t.reply = some (.status .exhausted) ∧ Initial t) ∨
     (t.reply = some (.status .fault) ∧ t.fault = true ∧
        (s.fault = true ∨ (t.faultAt = t.start ∧ isReserved (instrAt t t.start.toNat) = true))))

/-- R189. -/
def Obligations.EveryInvocationEnds : Prop :=
  (∀ s : State, Ready s → s.streamLen ≤ s.start.toNat → ∃ t : State,
    invoke s = .next t ∧ runInvocation 1 (hostRun s) = .next t ∧ t.phase = .idle) ∧
  (∀ s : State, MachineInv s → s.phase = .running → s.start.toNat < s.streamLen → ∃ (k : Nat) (t : State),
    k ≤ s.streamLen - s.start.toNat ∧ runInvocation k s = .next t ∧
      (t.phase = .idle ∨ (t.phase = .running ∧ t.start.toNat = t.streamLen ∧
        ∃ u, step t = .next u ∧ u.phase = .idle))) ∧
  (∀ s t : State, MachineInv s → s.phase = .running → step s = .next t →
    t.phase = .idle ∨ t.start.toNat = s.start.toNat + 1) ∧
  (∀ s : State, MachineInv s → Ready s →
    (∀ a, s.start.toNat ≤ a → a < s.streamLen →
      instrAt s a ≠ .toolNextframe ∧ isReserved (instrAt s a) = false) →
    ∃ t : State, invoke s = .next t ∧ t.reply = some (.status .exhausted))

/-- R190. -/
def Obligations.PlaybackLoops : Prop :=
  ∀ s : State, MachineInv s → Initial s →
    (∀ a, a < s.streamLen → isReserved (instrAt s a) = false) →
      let n := countNextframes s s.streamLen
      ∃ (shown : List Shown) (t : State), playback (n + 1) s = (shown, t) ∧ Initial t ∧
        shown.map Prod.fst = List.replicate n (some (.status .frame)) ++ [some (.status .exhausted)] ∧
        (playback (n + 1) t).1 = shown ∧ Initial (playback (n + 1) t).2

/-! ### The DATA field codec -/

/-- R151 to R155. -/
def Obligations.PackLayouts : Prop :=
  (∀ v : Byte,
    (packHigh2 v).toNat = v.toNat / 64 ∧ (packLow6 v).toNat = v.toNat % 64 ∧
    (packMid6 v).toNat = v.toNat / 4 ∧ (packRotate v).toNat = v.toNat % 4 * 16 + v.toNat / 16 ∧
    (packTail v).toNat = v.toNat % 16 * 4 + 3) ∧
  [packHigh2 178, packLow6 178, packMid6 178, packRotate 178, packTail 178] = [2, 50, 44, 43, 11] ∧
  [packHigh2 126, packLow6 126, packMid6 126, packRotate 126, packTail 126] = [1, 62, 31, 39, 59]

/-- R156 to R158. -/
def Obligations.UnpackLayouts : Prop :=
  (∀ hi lo : Field6,
    (unpackA hi lo).toNat = hi.toNat % 4 * 64 + lo.toNat ∧
    (unpackA hi lo).toNat = ((hi.toNat <<< 6) ||| lo.toNat) % 256 ∧
    (unpackB hi lo).toNat = hi.toNat * 4 + lo.toNat / 16 ∧
    (unpackB hi lo).toNat = (hi.toNat <<< 2) ||| (lo.toNat >>> 4) ∧
    (unpackC hi lo).toNat = hi.toNat % 16 * 16 + lo.toNat / 4 ∧
    (unpackC hi lo).toNat = ((hi.toNat <<< 4) ||| (lo.toNat >>> 2)) % 256) ∧
  unpackA 2 50 = 178 ∧ unpackA 1 62 = 126 ∧ unpackA 63 0 = 192 ∧ unpackA 4 5 = 5 ∧
  unpackB 44 32 = 178 ∧ unpackB 31 32 = 126 ∧ unpackB 44 43 = 178 ∧ unpackB 63 63 = 255 ∧ unpackB 0 15 = 0 ∧
  unpackC 11 8 = 178 ∧ unpackC 7 56 = 126 ∧ unpackC 43 11 = 178 ∧ unpackC 63 63 = 255 ∧ unpackC 48 3 = 0

/-- R161, with R159, R160 and R163: the round trip, the order of the fields, the pairing of the unpacks, and the
DATA bytes of the source's two examples. -/
def Obligations.ColourRoundTrip : Prop :=
  (∀ v : Byte, colourDecode ⟨packHigh2 v, packLow6 v, packMid6 v, packRotate v, packTail v⟩ = ⟨v, v, v⟩) ∧
  (∀ v : Byte, (colourEncode v).toList = [packHigh2 v, packLow6 v, packMid6 v, packRotate v, packTail v]) ∧
  (∀ f0 f1 f2 f3 f4 : Field6,
    colourDecode ⟨f0, f1, f2, f3, f4⟩ = ⟨unpackA f0 f1, unpackB f2 f3, unpackC f3 f4⟩) ∧
  (colourEncode 178).toList = [2, 50, 44, 43, 11] ∧
  (colourEncode 178).toList.map dataByte = [0xC2, 0xF2, 0xEC, 0xEB, 0xCB] ∧
  (colourEncode 126).toList.map dataByte = [0xC1, 0xFE, 0xDF, 0xE7, 0xFB]

/-- R168: the decoder ignores the bits outside the layout, and rejects nothing: any channels come from some
fields, whatever their unused bits are. -/
def Obligations.DecodeIgnoresUnusedBits : Prop :=
  (∀ f g : ColourFields,
    f.f0.toNat % 4 = g.f0.toNat % 4 → f.f1 = g.f1 → f.f2 = g.f2 → f.f3 = g.f3 →
    f.f4.toNat / 4 = g.f4.toNat / 4 → colourDecode f = colourDecode g) ∧
  (∀ (c : Channels) (z : BitVec 4) (m : BitVec 2), ∃ f : ColourFields,
    f.f0.extractLsb 5 2 = z ∧ f.f4.extractLsb 1 0 = m ∧ colourDecode f = c)

/-- R162: the bits of the five fields, as the decoder reads them and as the encoder writes them. -/
def Obligations.ColourFieldBitMap : Prop :=
  (∀ f : ColourFields, ∀ k : Nat,
    (k < 2 → (colourDecode f).r.getLsbD (6 + k) = f.f0.getLsbD k ∧
      (colourDecode f).g.getLsbD k = f.f3.getLsbD (4 + k)) ∧
    (k < 6 → (colourDecode f).r.getLsbD k = f.f1.getLsbD k ∧
      (colourDecode f).g.getLsbD (2 + k) = f.f2.getLsbD k) ∧
    (k < 4 → (colourDecode f).b.getLsbD (4 + k) = f.f3.getLsbD k ∧
      (colourDecode f).b.getLsbD k = f.f4.getLsbD (2 + k))) ∧
  (∀ v : Byte, (colourEncode v).f0.toNat < 4 ∧ (colourEncode v).f4.toNat % 4 = 3)

/-- R164: the accumulator image of a colour, and the fields and channels read back from it. -/
def Obligations.AccumulatorHoldsTheColour : Prop :=
  (∀ (f : ColourFields) (s : State), s.data = 0 → ∃ t : State,
    execAll (f.toList.map Instr.data) s = .next t ∧
      t.data.toNat = f.f0.toNat * 2 ^ 24 + f.f1.toNat * 2 ^ 18 + f.f2.toNat * 2 ^ 12 + f.f3.toNat * 2 ^ 6
        + f.f4.toNat ∧
      f.toList = [t.data.extractLsb 29 24, t.data.extractLsb 23 18, t.data.extractLsb 17 12,
        t.data.extractLsb 11 6, t.data.extractLsb 5 0] ∧
      colourDecode f = ⟨t.data.extractLsb 25 18, t.data.extractLsb 17 10, t.data.extractLsb 9 2⟩) ∧
  (∀ (v : Byte) (s : State), s.data = 0 → ∃ t : State,
    execAll ((colourEncode v).toList.map Instr.data) s = .next t ∧
      t.data.toNat = v.toNat * 2 ^ 18 + v.toNat * 2 ^ 10 + v.toNat * 2 ^ 2 + 3 ∧
      (v = 178 → t.data = 46844619) ∧ (v = 126 → t.data = 33159675))

/-- R165 and R166. -/
def Obligations.WideOperandsReachTheTarget : Prop :=
  (∀ w : Byte, (w.toNat < 64 → (wideEncode w).map BitVec.toNat = [w.toNat]) ∧
    (64 ≤ w.toNat → wideEncode w = [packHigh2 w, packLow6 w])) ∧
  wideEncode 64 = [1, 0] ∧ wideEncode 200 = [3, 8] ∧ wideEncode 255 = [3, 63] ∧
  (∀ (w : Byte) (s : State), s.data = 0 → ∃ t u v : State,
    execAll ((wideEncode w).map Instr.data) s = .next t ∧ t.data.toNat = w.toNat ∧
    exec .toolTargetX t = .next u ∧ u.tx.toInt = w.toNat ∧
    exec .toolTargetY t = .next v ∧ v.ty.toInt = w.toNat) ∧
  (∀ w : Byte, unpackA (packHigh2 w) (packLow6 w) = w)

/-- R167: the ports of encode, decode and wide encode. -/
def Obligations.CodecPorts : Prop :=
  (∀ v : Byte, (encodePorts v).fields = ⟨packHigh2 v, packLow6 v, packMid6 v, packRotate v, packTail v⟩ ∧
    [(encodePorts v).b0, (encodePorts v).b1, (encodePorts v).b2, (encodePorts v).b3, (encodePorts v).b4]
      = (encodePorts v).fields.toList.map fun f => 0xC0 ||| f.setWidth 8) ∧
  (∀ f : ColourFields, (colourDecode f).r = unpackA f.f0 f.f1 ∧ (colourDecode f).g = unpackB f.f2 f.f3 ∧
    (colourDecode f).b = unpackC f.f3 f.f4) ∧
  (∀ w : Byte,
    (w.toNat < 64 → (widePorts w).n = 1 ∧ (widePorts w).f0.toNat = w.toNat ∧ (widePorts w).f1 = 0) ∧
    (64 ≤ w.toNat → widePorts w = ⟨2, packHigh2 w, packLow6 w⟩)) ∧
  (∀ f : Field6, decodeByte (dataByte f) = .data f)

/-! ### Assembly -/

/-- R79 (the syntax is the spec's own decision, D22; the radix of DATA and `.byte` is the model's choice, log 13):
the text of an instruction assembles to its byte, an operand in range gives the byte of exactly that operand, and
one out of range is an error. The last clause is P4's reserved byte. -/
def Obligations.AssemblerInvertsTextAndNeverWraps : Prop :=
  (∀ b : Byte, assembleLine (asmText (decodeByte b)) = .ok [b]) ∧
  (∀ (w : List Char) (v : Int), readInt w = some v →
    (-32 ≤ v → v ≤ 31 → ∃ (b c : Byte) (d : Coord), d.toInt = v ∧
      assembleWords ['D', 'X'] w = .ok b ∧ decodeByte b = .dx d ∧
      assembleWords ['D', 'Y'] w = .ok c ∧ decodeByte c = .dy d) ∧
    (¬ (-32 ≤ v ∧ v ≤ 31) → assembleWords ['D', 'X'] w = .error .outOfRange ∧
      assembleWords ['D', 'Y'] w = .error .outOfRange)) ∧
  (∀ (w : List Char) (v : Int), readNumeral w = some v →
    (0 ≤ v → v ≤ 63 → ∃ (b : Byte) (f : Field6), (f.toNat : Int) = v ∧
      assembleWords ['D', 'A', 'T', 'A'] w = .ok b ∧ decodeByte b = .data f) ∧
    (¬ (0 ≤ v ∧ v ≤ 63) → assembleWords ['D', 'A', 'T', 'A'] w = .error .outOfRange) ∧
    (0 ≤ v → v ≤ 255 → ∃ b : Byte, (b.toNat : Int) = v ∧ assembleWords ['.', 'b', 'y', 't', 'e'] w = .ok b) ∧
    (¬ (0 ≤ v ∧ v ≤ 255) → assembleWords ['.', 'b', 'y', 't', 'e'] w = .error .outOfRange)) ∧
  assembleLine ['.', 'b', 'y', 't', 'e', ' ', '0', 'x', '8', '9'] = .ok [0x89]

/-- R80 (the names are the spec's own decision, D22): what each pseudo-instruction does from a cleared
accumulator. -/
def Obligations.PseudoInstructionsMoveAndFill : Prop :=
  ∀ (a b : Byte) (s : State), s.data = 0 → ∃ t u v w m f : State,
    execAll (Pseudo.lit a).expand s = .next t ∧ t.data.toNat = a.toNat ∧
    execAll (Pseudo.setX a).expand s = .next u ∧ u.tx.toInt = a.toNat ∧ u.data = 0 ∧
    execAll (Pseudo.setY b).expand s = .next v ∧ v.ty.toInt = b.toNat ∧ v.data = 0 ∧
    execAll (Pseudo.colourV a).expand s = .next w ∧ w.data = 0 ∧
      w.events = s.events ++ [.setColour (BitVec.ofNat 32 (a.toNat * 263172 + 3))] ∧
    execAll (Pseudo.moveTo a b).expand s = .next m ∧ m.x.toInt = a.toNat ∧ m.y.toInt = b.toNat ∧
      m.tool = .none ∧ m.data = 0 ∧ m.events = s.events ∧
    execAll (Pseudo.fillTo a b).expand s = .next f ∧ f.x.toInt = a.toNat ∧ f.y.toInt = b.toNat ∧
      f.tool = .block ∧ f.data = 0 ∧
      f.events = s.events ++ [.drawBlock s.x s.y (BitVec.ofNat 32 a.toNat - s.x) (BitVec.ofNat 32 b.toNat - s.y)]

/-- R81: one run of the encoder sets its colour and fills its block, from a cleared accumulator. -/
def Obligations.EncoderRunFillsOneBlock : Prop :=
  ∀ (v a b c d : Byte) (s : State), s.data = 0 → ∃ t : State,
    execAll (encoderRun v a b c d) s = .next t ∧ t.data = 0 ∧ t.tool = .block ∧
      t.x.toInt = c.toNat ∧ t.y.toInt = d.toNat ∧
      ∃ (k : Acc) (w h : Coord), t.events = s.events ++
        [.setColour k, .drawBlock (a.setWidth 32) (b.setWidth 32) w h] ∧
        k.toNat = v.toNat * 2 ^ 18 + v.toNat * 2 ^ 10 + v.toNat * 2 ^ 2 + 3 ∧
        w.toInt = (c.toNat : Int) - a.toNat ∧ h.toInt = (d.toNat : Int) - b.toNat

/-! ### Reading the fault status -/

/-- R188's rows Read fault status and Stop, with R27: the four fault fields are given back, and nothing changes but
the reply (that Stop empties it is the model's choice, log 19). After a reserved TOOL they name its byte and
offset. -/
def Obligations.FaultStatusIsReadAndStopDoesNothing : Prop :=
  (∀ s : State, hostMove .readFaultStatus s =
    .next { s with reply := some (.faultStatus s.fault s.faultCode s.faultByte s.faultAt) }) ∧
  (∀ s : State, hostMove .stop s = .next { s with reply := none }) ∧
  (∀ (c : Field6) (s : State), 9 ≤ c.toNat → AboutTo (.toolReserved c) s → ∃ (t u : State) (b : Byte),
    memRead s s.start.toNat = .ok b ∧ step s = .next t ∧ hostMove .readFaultStatus t = .next u ∧
      u.reply = some (.faultStatus true 1 b s.start) ∧ u.start = s.start ∧ u.fault = true)

/-! ### The text of pseudo-instructions -/

/-- R80 (the names are the spec's own decision, D22; that the assembler takes their lines is the model's choice,
log 22): a pseudo-instruction's line assembles to the bytes of its expansion, and an operand is its own byte or,
out of range, an error. The last clause is P2 of
spec/95_test_vectors.md, a line for each of its three. -/
def Obligations.PseudoTextAssemblesToItsExpansion : Prop :=
  (∀ p : Pseudo, assembleLine (pseudoText p) = .ok (p.expand.map encode)) ∧
  (∀ (w : List Char) (v : Int), readNumeral w = some v →
    (0 ≤ v → v ≤ 255 → ∃ b : Byte, (b.toNat : Int) = v ∧ readByte w = .ok b) ∧
    (¬ (0 ≤ v ∧ v ≤ 255) → readByte w = .error .outOfRange)) ∧
  assembleLines [pseudoText (.colourV 178), pseudoText (.moveTo 10 0), pseudoText (.fillTo 74 1)] =
    .ok [0xC2, 0xF2, 0xEC, 0xEB, 0xCB, 0x83, 0xCA, 0x84, 0xC0, 0x85, 0x80, 0x40, 0xC1, 0xCA, 0x84, 0xC1, 0x85, 0x82, 0x40]
end

