-- ==== Sys2Proof/Laws/Decode.lean ====
section
/-! SUPPORT. The fields of a byte, and what the decoder answers on each opcode. -/

namespace Sys2Proof

theorem opcodeOf_joinByte : ∀ (op : BitVec 2) (f : Field6), opcodeOf (joinByte op f) = op := by decide

theorem operandOf_joinByte : ∀ (op : BitVec 2) (f : Field6), operandOf (joinByte op f) = f := by decide

theorem joinByte_fields : ∀ b : Byte, joinByte (opcodeOf b) (operandOf b) = b := by decide

theorem joinByte_toNat : ∀ (op : BitVec 2) (f : Field6), (joinByte op f).toNat = op.toNat * 64 + f.toNat := by
  decide

theorem decodeByte_opcode0 (f : Field6) : decodeByte (joinByte 0 f) = .dx (delta f) := by
  simp [decodeByte, opcodeOf_joinByte, operandOf_joinByte]

theorem decodeByte_opcode1 (f : Field6) : decodeByte (joinByte 1 f) = .dy (delta f) := by
  simp [decodeByte, opcodeOf_joinByte, operandOf_joinByte]

theorem decodeByte_opcode2 (f : Field6) : decodeByte (joinByte 2 f) = decodeTool f := by
  simp [decodeByte, opcodeOf_joinByte, operandOf_joinByte]

theorem decodeByte_opcode3 (f : Field6) : decodeByte (joinByte 3 f) = .data f := by
  simp [decodeByte, opcodeOf_joinByte, operandOf_joinByte]

end Sys2Proof
end

