-- ==== Sys2Proof/Laws/State.lean ====
section
/-! SUPPORT. For each update of the state, what each field is after it: one lemma per field, true by
definition, so that no later proof unfolds a record update. -/

namespace Sys2Proof.Machine

variable (s : State)

@[simp] theorem raiseEnd_x : (raiseEnd s).x = s.x := rfl
@[simp] theorem raiseEnd_y : (raiseEnd s).y = s.y := rfl
@[simp] theorem raiseEnd_tx : (raiseEnd s).tx = s.tx := rfl
@[simp] theorem raiseEnd_ty : (raiseEnd s).ty = s.ty := rfl
@[simp] theorem raiseEnd_tool : (raiseEnd s).tool = s.tool := rfl
@[simp] theorem raiseEnd_data : (raiseEnd s).data = s.data := rfl
@[simp] theorem raiseEnd_start : (raiseEnd s).start = s.start := rfl
@[simp] theorem raiseEnd_endFlag : (raiseEnd s).endFlag = true := rfl
@[simp] theorem raiseEnd_fault : (raiseEnd s).fault = s.fault := rfl
@[simp] theorem raiseEnd_faultCode : (raiseEnd s).faultCode = s.faultCode := rfl
@[simp] theorem raiseEnd_faultByte : (raiseEnd s).faultByte = s.faultByte := rfl
@[simp] theorem raiseEnd_faultAt : (raiseEnd s).faultAt = s.faultAt := rfl
@[simp] theorem raiseEnd_phase : (raiseEnd s).phase = s.phase := rfl
@[simp] theorem raiseEnd_stream : (raiseEnd s).stream = s.stream := rfl
@[simp] theorem raiseEnd_streamLen : (raiseEnd s).streamLen = s.streamLen := rfl
@[simp] theorem raiseEnd_events : (raiseEnd s).events = s.events := rfl
@[simp] theorem raiseEnd_reply : (raiseEnd s).reply = s.reply := rfl
@[simp] theorem raiseEnd_launched : (raiseEnd s).launched = s.launched := rfl
@[simp] theorem raiseEnd_hostMoves : (raiseEnd s).hostMoves = s.hostMoves := rfl

@[simp] theorem lowerEnd_x : (lowerEnd s).x = s.x := rfl
@[simp] theorem lowerEnd_y : (lowerEnd s).y = s.y := rfl
@[simp] theorem lowerEnd_tx : (lowerEnd s).tx = s.tx := rfl
@[simp] theorem lowerEnd_ty : (lowerEnd s).ty = s.ty := rfl
@[simp] theorem lowerEnd_tool : (lowerEnd s).tool = s.tool := rfl
@[simp] theorem lowerEnd_data : (lowerEnd s).data = s.data := rfl
@[simp] theorem lowerEnd_start : (lowerEnd s).start = s.start := rfl
@[simp] theorem lowerEnd_endFlag : (lowerEnd s).endFlag = false := rfl
@[simp] theorem lowerEnd_fault : (lowerEnd s).fault = s.fault := rfl
@[simp] theorem lowerEnd_faultCode : (lowerEnd s).faultCode = s.faultCode := rfl
@[simp] theorem lowerEnd_faultByte : (lowerEnd s).faultByte = s.faultByte := rfl
@[simp] theorem lowerEnd_faultAt : (lowerEnd s).faultAt = s.faultAt := rfl
@[simp] theorem lowerEnd_phase : (lowerEnd s).phase = s.phase := rfl
@[simp] theorem lowerEnd_stream : (lowerEnd s).stream = s.stream := rfl
@[simp] theorem lowerEnd_streamLen : (lowerEnd s).streamLen = s.streamLen := rfl
@[simp] theorem lowerEnd_events : (lowerEnd s).events = s.events := rfl
@[simp] theorem lowerEnd_reply : (lowerEnd s).reply = s.reply := rfl
@[simp] theorem lowerEnd_launched : (lowerEnd s).launched = s.launched := rfl
@[simp] theorem lowerEnd_hostMoves : (lowerEnd s).hostMoves = s.hostMoves := rfl

@[simp] theorem advance_x : (advance s).x = s.x := rfl
@[simp] theorem advance_y : (advance s).y = s.y := rfl
@[simp] theorem advance_tx : (advance s).tx = s.tx := rfl
@[simp] theorem advance_ty : (advance s).ty = s.ty := rfl
@[simp] theorem advance_tool : (advance s).tool = s.tool := rfl
@[simp] theorem advance_data : (advance s).data = s.data := rfl
@[simp] theorem advance_start : (advance s).start = s.start + 1 := rfl
@[simp] theorem advance_endFlag : (advance s).endFlag = s.endFlag := rfl
@[simp] theorem advance_fault : (advance s).fault = s.fault := rfl
@[simp] theorem advance_faultCode : (advance s).faultCode = s.faultCode := rfl
@[simp] theorem advance_faultByte : (advance s).faultByte = s.faultByte := rfl
@[simp] theorem advance_faultAt : (advance s).faultAt = s.faultAt := rfl
@[simp] theorem advance_phase : (advance s).phase = s.phase := rfl
@[simp] theorem advance_stream : (advance s).stream = s.stream := rfl
@[simp] theorem advance_streamLen : (advance s).streamLen = s.streamLen := rfl
@[simp] theorem advance_events : (advance s).events = s.events := rfl
@[simp] theorem advance_reply : (advance s).reply = s.reply := rfl
@[simp] theorem advance_launched : (advance s).launched = s.launched := rfl
@[simp] theorem advance_hostMoves : (advance s).hostMoves = s.hostMoves := rfl

@[simp] theorem setTx_x (v : Coord) : (setTx v s).x = s.x := rfl
@[simp] theorem setTx_y (v : Coord) : (setTx v s).y = s.y := rfl
@[simp] theorem setTx_tx (v : Coord) : (setTx v s).tx = v := rfl
@[simp] theorem setTx_ty (v : Coord) : (setTx v s).ty = s.ty := rfl
@[simp] theorem setTx_tool (v : Coord) : (setTx v s).tool = s.tool := rfl
@[simp] theorem setTx_data (v : Coord) : (setTx v s).data = s.data := rfl
@[simp] theorem setTx_start (v : Coord) : (setTx v s).start = s.start := rfl
@[simp] theorem setTx_endFlag (v : Coord) : (setTx v s).endFlag = s.endFlag := rfl
@[simp] theorem setTx_fault (v : Coord) : (setTx v s).fault = s.fault := rfl
@[simp] theorem setTx_faultCode (v : Coord) : (setTx v s).faultCode = s.faultCode := rfl
@[simp] theorem setTx_faultByte (v : Coord) : (setTx v s).faultByte = s.faultByte := rfl
@[simp] theorem setTx_faultAt (v : Coord) : (setTx v s).faultAt = s.faultAt := rfl
@[simp] theorem setTx_phase (v : Coord) : (setTx v s).phase = s.phase := rfl
@[simp] theorem setTx_stream (v : Coord) : (setTx v s).stream = s.stream := rfl
@[simp] theorem setTx_streamLen (v : Coord) : (setTx v s).streamLen = s.streamLen := rfl
@[simp] theorem setTx_events (v : Coord) : (setTx v s).events = s.events := rfl
@[simp] theorem setTx_reply (v : Coord) : (setTx v s).reply = s.reply := rfl
@[simp] theorem setTx_launched (v : Coord) : (setTx v s).launched = s.launched := rfl
@[simp] theorem setTx_hostMoves (v : Coord) : (setTx v s).hostMoves = s.hostMoves := rfl

@[simp] theorem setTy_x (v : Coord) : (setTy v s).x = s.x := rfl
@[simp] theorem setTy_y (v : Coord) : (setTy v s).y = s.y := rfl
@[simp] theorem setTy_tx (v : Coord) : (setTy v s).tx = s.tx := rfl
@[simp] theorem setTy_ty (v : Coord) : (setTy v s).ty = v := rfl
@[simp] theorem setTy_tool (v : Coord) : (setTy v s).tool = s.tool := rfl
@[simp] theorem setTy_data (v : Coord) : (setTy v s).data = s.data := rfl
@[simp] theorem setTy_start (v : Coord) : (setTy v s).start = s.start := rfl
@[simp] theorem setTy_endFlag (v : Coord) : (setTy v s).endFlag = s.endFlag := rfl
@[simp] theorem setTy_fault (v : Coord) : (setTy v s).fault = s.fault := rfl
@[simp] theorem setTy_faultCode (v : Coord) : (setTy v s).faultCode = s.faultCode := rfl
@[simp] theorem setTy_faultByte (v : Coord) : (setTy v s).faultByte = s.faultByte := rfl
@[simp] theorem setTy_faultAt (v : Coord) : (setTy v s).faultAt = s.faultAt := rfl
@[simp] theorem setTy_phase (v : Coord) : (setTy v s).phase = s.phase := rfl
@[simp] theorem setTy_stream (v : Coord) : (setTy v s).stream = s.stream := rfl
@[simp] theorem setTy_streamLen (v : Coord) : (setTy v s).streamLen = s.streamLen := rfl
@[simp] theorem setTy_events (v : Coord) : (setTy v s).events = s.events := rfl
@[simp] theorem setTy_reply (v : Coord) : (setTy v s).reply = s.reply := rfl
@[simp] theorem setTy_launched (v : Coord) : (setTy v s).launched = s.launched := rfl
@[simp] theorem setTy_hostMoves (v : Coord) : (setTy v s).hostMoves = s.hostMoves := rfl

@[simp] theorem commitCursor_x : (commitCursor s).x = s.tx := rfl
@[simp] theorem commitCursor_y : (commitCursor s).y = s.ty := rfl
@[simp] theorem commitCursor_tx : (commitCursor s).tx = s.tx := rfl
@[simp] theorem commitCursor_ty : (commitCursor s).ty = s.ty := rfl
@[simp] theorem commitCursor_tool : (commitCursor s).tool = s.tool := rfl
@[simp] theorem commitCursor_data : (commitCursor s).data = s.data := rfl
@[simp] theorem commitCursor_start : (commitCursor s).start = s.start := rfl
@[simp] theorem commitCursor_endFlag : (commitCursor s).endFlag = s.endFlag := rfl
@[simp] theorem commitCursor_fault : (commitCursor s).fault = s.fault := rfl
@[simp] theorem commitCursor_faultCode : (commitCursor s).faultCode = s.faultCode := rfl
@[simp] theorem commitCursor_faultByte : (commitCursor s).faultByte = s.faultByte := rfl
@[simp] theorem commitCursor_faultAt : (commitCursor s).faultAt = s.faultAt := rfl
@[simp] theorem commitCursor_phase : (commitCursor s).phase = s.phase := rfl
@[simp] theorem commitCursor_stream : (commitCursor s).stream = s.stream := rfl
@[simp] theorem commitCursor_streamLen : (commitCursor s).streamLen = s.streamLen := rfl
@[simp] theorem commitCursor_events : (commitCursor s).events = s.events := rfl
@[simp] theorem commitCursor_reply : (commitCursor s).reply = s.reply := rfl
@[simp] theorem commitCursor_launched : (commitCursor s).launched = s.launched := rfl
@[simp] theorem commitCursor_hostMoves : (commitCursor s).hostMoves = s.hostMoves := rfl

@[simp] theorem setTool_x (m : ToolMode) : (setTool m s).x = s.x := rfl
@[simp] theorem setTool_y (m : ToolMode) : (setTool m s).y = s.y := rfl
@[simp] theorem setTool_tx (m : ToolMode) : (setTool m s).tx = s.tx := rfl
@[simp] theorem setTool_ty (m : ToolMode) : (setTool m s).ty = s.ty := rfl
@[simp] theorem setTool_tool (m : ToolMode) : (setTool m s).tool = m := rfl
@[simp] theorem setTool_data (m : ToolMode) : (setTool m s).data = s.data := rfl
@[simp] theorem setTool_start (m : ToolMode) : (setTool m s).start = s.start := rfl
@[simp] theorem setTool_endFlag (m : ToolMode) : (setTool m s).endFlag = s.endFlag := rfl
@[simp] theorem setTool_fault (m : ToolMode) : (setTool m s).fault = s.fault := rfl
@[simp] theorem setTool_faultCode (m : ToolMode) : (setTool m s).faultCode = s.faultCode := rfl
@[simp] theorem setTool_faultByte (m : ToolMode) : (setTool m s).faultByte = s.faultByte := rfl
@[simp] theorem setTool_faultAt (m : ToolMode) : (setTool m s).faultAt = s.faultAt := rfl
@[simp] theorem setTool_phase (m : ToolMode) : (setTool m s).phase = s.phase := rfl
@[simp] theorem setTool_stream (m : ToolMode) : (setTool m s).stream = s.stream := rfl
@[simp] theorem setTool_streamLen (m : ToolMode) : (setTool m s).streamLen = s.streamLen := rfl
@[simp] theorem setTool_events (m : ToolMode) : (setTool m s).events = s.events := rfl
@[simp] theorem setTool_reply (m : ToolMode) : (setTool m s).reply = s.reply := rfl
@[simp] theorem setTool_launched (m : ToolMode) : (setTool m s).launched = s.launched := rfl
@[simp] theorem setTool_hostMoves (m : ToolMode) : (setTool m s).hostMoves = s.hostMoves := rfl

@[simp] theorem setData_x (v : Acc) : (setData v s).x = s.x := rfl
@[simp] theorem setData_y (v : Acc) : (setData v s).y = s.y := rfl
@[simp] theorem setData_tx (v : Acc) : (setData v s).tx = s.tx := rfl
@[simp] theorem setData_ty (v : Acc) : (setData v s).ty = s.ty := rfl
@[simp] theorem setData_tool (v : Acc) : (setData v s).tool = s.tool := rfl
@[simp] theorem setData_data (v : Acc) : (setData v s).data = v := rfl
@[simp] theorem setData_start (v : Acc) : (setData v s).start = s.start := rfl
@[simp] theorem setData_endFlag (v : Acc) : (setData v s).endFlag = s.endFlag := rfl
@[simp] theorem setData_fault (v : Acc) : (setData v s).fault = s.fault := rfl
@[simp] theorem setData_faultCode (v : Acc) : (setData v s).faultCode = s.faultCode := rfl
@[simp] theorem setData_faultByte (v : Acc) : (setData v s).faultByte = s.faultByte := rfl
@[simp] theorem setData_faultAt (v : Acc) : (setData v s).faultAt = s.faultAt := rfl
@[simp] theorem setData_phase (v : Acc) : (setData v s).phase = s.phase := rfl
@[simp] theorem setData_stream (v : Acc) : (setData v s).stream = s.stream := rfl
@[simp] theorem setData_streamLen (v : Acc) : (setData v s).streamLen = s.streamLen := rfl
@[simp] theorem setData_events (v : Acc) : (setData v s).events = s.events := rfl
@[simp] theorem setData_reply (v : Acc) : (setData v s).reply = s.reply := rfl
@[simp] theorem setData_launched (v : Acc) : (setData v s).launched = s.launched := rfl
@[simp] theorem setData_hostMoves (v : Acc) : (setData v s).hostMoves = s.hostMoves := rfl

@[simp] theorem clearData_x : (clearData s).x = s.x := rfl
@[simp] theorem clearData_y : (clearData s).y = s.y := rfl
@[simp] theorem clearData_tx : (clearData s).tx = s.tx := rfl
@[simp] theorem clearData_ty : (clearData s).ty = s.ty := rfl
@[simp] theorem clearData_tool : (clearData s).tool = s.tool := rfl
@[simp] theorem clearData_data : (clearData s).data = 0 := rfl
@[simp] theorem clearData_start : (clearData s).start = s.start := rfl
@[simp] theorem clearData_endFlag : (clearData s).endFlag = s.endFlag := rfl
@[simp] theorem clearData_fault : (clearData s).fault = s.fault := rfl
@[simp] theorem clearData_faultCode : (clearData s).faultCode = s.faultCode := rfl
@[simp] theorem clearData_faultByte : (clearData s).faultByte = s.faultByte := rfl
@[simp] theorem clearData_faultAt : (clearData s).faultAt = s.faultAt := rfl
@[simp] theorem clearData_phase : (clearData s).phase = s.phase := rfl
@[simp] theorem clearData_stream : (clearData s).stream = s.stream := rfl
@[simp] theorem clearData_streamLen : (clearData s).streamLen = s.streamLen := rfl
@[simp] theorem clearData_events : (clearData s).events = s.events := rfl
@[simp] theorem clearData_reply : (clearData s).reply = s.reply := rfl
@[simp] theorem clearData_launched : (clearData s).launched = s.launched := rfl
@[simp] theorem clearData_hostMoves : (clearData s).hostMoves = s.hostMoves := rfl

@[simp] theorem emitAll_x (es : List Event) : (emitAll es s).x = s.x := rfl
@[simp] theorem emitAll_y (es : List Event) : (emitAll es s).y = s.y := rfl
@[simp] theorem emitAll_tx (es : List Event) : (emitAll es s).tx = s.tx := rfl
@[simp] theorem emitAll_ty (es : List Event) : (emitAll es s).ty = s.ty := rfl
@[simp] theorem emitAll_tool (es : List Event) : (emitAll es s).tool = s.tool := rfl
@[simp] theorem emitAll_data (es : List Event) : (emitAll es s).data = s.data := rfl
@[simp] theorem emitAll_start (es : List Event) : (emitAll es s).start = s.start := rfl
@[simp] theorem emitAll_endFlag (es : List Event) : (emitAll es s).endFlag = s.endFlag := rfl
@[simp] theorem emitAll_fault (es : List Event) : (emitAll es s).fault = s.fault := rfl
@[simp] theorem emitAll_faultCode (es : List Event) : (emitAll es s).faultCode = s.faultCode := rfl
@[simp] theorem emitAll_faultByte (es : List Event) : (emitAll es s).faultByte = s.faultByte := rfl
@[simp] theorem emitAll_faultAt (es : List Event) : (emitAll es s).faultAt = s.faultAt := rfl
@[simp] theorem emitAll_phase (es : List Event) : (emitAll es s).phase = s.phase := rfl
@[simp] theorem emitAll_stream (es : List Event) : (emitAll es s).stream = s.stream := rfl
@[simp] theorem emitAll_streamLen (es : List Event) : (emitAll es s).streamLen = s.streamLen := rfl
@[simp] theorem emitAll_events (es : List Event) : (emitAll es s).events = s.events ++ es := rfl
@[simp] theorem emitAll_reply (es : List Event) : (emitAll es s).reply = s.reply := rfl
@[simp] theorem emitAll_launched (es : List Event) : (emitAll es s).launched = s.launched := rfl
@[simp] theorem emitAll_hostMoves (es : List Event) : (emitAll es s).hostMoves = s.hostMoves := rfl

@[simp] theorem emit_x (e : Event) : (emit e s).x = s.x := rfl
@[simp] theorem emit_y (e : Event) : (emit e s).y = s.y := rfl
@[simp] theorem emit_tx (e : Event) : (emit e s).tx = s.tx := rfl
@[simp] theorem emit_ty (e : Event) : (emit e s).ty = s.ty := rfl
@[simp] theorem emit_tool (e : Event) : (emit e s).tool = s.tool := rfl
@[simp] theorem emit_data (e : Event) : (emit e s).data = s.data := rfl
@[simp] theorem emit_start (e : Event) : (emit e s).start = s.start := rfl
@[simp] theorem emit_endFlag (e : Event) : (emit e s).endFlag = s.endFlag := rfl
@[simp] theorem emit_fault (e : Event) : (emit e s).fault = s.fault := rfl
@[simp] theorem emit_faultCode (e : Event) : (emit e s).faultCode = s.faultCode := rfl
@[simp] theorem emit_faultByte (e : Event) : (emit e s).faultByte = s.faultByte := rfl
@[simp] theorem emit_faultAt (e : Event) : (emit e s).faultAt = s.faultAt := rfl
@[simp] theorem emit_phase (e : Event) : (emit e s).phase = s.phase := rfl
@[simp] theorem emit_stream (e : Event) : (emit e s).stream = s.stream := rfl
@[simp] theorem emit_streamLen (e : Event) : (emit e s).streamLen = s.streamLen := rfl
@[simp] theorem emit_events (e : Event) : (emit e s).events = s.events ++ [e] := rfl
@[simp] theorem emit_reply (e : Event) : (emit e s).reply = s.reply := rfl
@[simp] theorem emit_launched (e : Event) : (emit e s).launched = s.launched := rfl
@[simp] theorem emit_hostMoves (e : Event) : (emit e s).hostMoves = s.hostMoves := rfl

@[simp] theorem drawWithTool_x : (drawWithTool s).x = s.x := rfl
@[simp] theorem drawWithTool_y : (drawWithTool s).y = s.y := rfl
@[simp] theorem drawWithTool_tx : (drawWithTool s).tx = s.tx := rfl
@[simp] theorem drawWithTool_ty : (drawWithTool s).ty = s.ty := rfl
@[simp] theorem drawWithTool_tool : (drawWithTool s).tool = s.tool := rfl
@[simp] theorem drawWithTool_data : (drawWithTool s).data = s.data := rfl
@[simp] theorem drawWithTool_start : (drawWithTool s).start = s.start := rfl
@[simp] theorem drawWithTool_endFlag : (drawWithTool s).endFlag = s.endFlag := rfl
@[simp] theorem drawWithTool_fault : (drawWithTool s).fault = s.fault := rfl
@[simp] theorem drawWithTool_faultCode : (drawWithTool s).faultCode = s.faultCode := rfl
@[simp] theorem drawWithTool_faultByte : (drawWithTool s).faultByte = s.faultByte := rfl
@[simp] theorem drawWithTool_faultAt : (drawWithTool s).faultAt = s.faultAt := rfl
@[simp] theorem drawWithTool_phase : (drawWithTool s).phase = s.phase := rfl
@[simp] theorem drawWithTool_stream : (drawWithTool s).stream = s.stream := rfl
@[simp] theorem drawWithTool_streamLen : (drawWithTool s).streamLen = s.streamLen := rfl
@[simp] theorem drawWithTool_events : (drawWithTool s).events = s.events ++ drawEvents s := rfl
@[simp] theorem drawWithTool_reply : (drawWithTool s).reply = s.reply := rfl
@[simp] theorem drawWithTool_launched : (drawWithTool s).launched = s.launched := rfl
@[simp] theorem drawWithTool_hostMoves : (drawWithTool s).hostMoves = s.hostMoves := rfl

@[simp] theorem raiseFault_x (c : BitVec 2) (b : Byte) (a : Offset) : (raiseFault c b a s).x = s.x := rfl
@[simp] theorem raiseFault_y (c : BitVec 2) (b : Byte) (a : Offset) : (raiseFault c b a s).y = s.y := rfl
@[simp] theorem raiseFault_tx (c : BitVec 2) (b : Byte) (a : Offset) : (raiseFault c b a s).tx = s.tx := rfl
@[simp] theorem raiseFault_ty (c : BitVec 2) (b : Byte) (a : Offset) : (raiseFault c b a s).ty = s.ty := rfl
@[simp] theorem raiseFault_tool (c : BitVec 2) (b : Byte) (a : Offset) : (raiseFault c b a s).tool = s.tool := rfl
@[simp] theorem raiseFault_data (c : BitVec 2) (b : Byte) (a : Offset) : (raiseFault c b a s).data = s.data := rfl
@[simp] theorem raiseFault_start (c : BitVec 2) (b : Byte) (a : Offset) : (raiseFault c b a s).start = s.start := rfl
@[simp] theorem raiseFault_endFlag (c : BitVec 2) (b : Byte) (a : Offset) : (raiseFault c b a s).endFlag = s.endFlag := rfl
@[simp] theorem raiseFault_fault (c : BitVec 2) (b : Byte) (a : Offset) : (raiseFault c b a s).fault = true := rfl
@[simp] theorem raiseFault_faultCode (c : BitVec 2) (b : Byte) (a : Offset) : (raiseFault c b a s).faultCode = c := rfl
@[simp] theorem raiseFault_faultByte (c : BitVec 2) (b : Byte) (a : Offset) : (raiseFault c b a s).faultByte = b := rfl
@[simp] theorem raiseFault_faultAt (c : BitVec 2) (b : Byte) (a : Offset) : (raiseFault c b a s).faultAt = a := rfl
@[simp] theorem raiseFault_phase (c : BitVec 2) (b : Byte) (a : Offset) : (raiseFault c b a s).phase = s.phase := rfl
@[simp] theorem raiseFault_stream (c : BitVec 2) (b : Byte) (a : Offset) : (raiseFault c b a s).stream = s.stream := rfl
@[simp] theorem raiseFault_streamLen (c : BitVec 2) (b : Byte) (a : Offset) : (raiseFault c b a s).streamLen = s.streamLen := rfl
@[simp] theorem raiseFault_events (c : BitVec 2) (b : Byte) (a : Offset) : (raiseFault c b a s).events = s.events := rfl
@[simp] theorem raiseFault_reply (c : BitVec 2) (b : Byte) (a : Offset) : (raiseFault c b a s).reply = s.reply := rfl
@[simp] theorem raiseFault_launched (c : BitVec 2) (b : Byte) (a : Offset) : (raiseFault c b a s).launched = s.launched := rfl
@[simp] theorem raiseFault_hostMoves (c : BitVec 2) (b : Byte) (a : Offset) : (raiseFault c b a s).hostMoves = s.hostMoves := rfl

@[simp] theorem clearFault_x : (clearFault s).x = s.x := rfl
@[simp] theorem clearFault_y : (clearFault s).y = s.y := rfl
@[simp] theorem clearFault_tx : (clearFault s).tx = s.tx := rfl
@[simp] theorem clearFault_ty : (clearFault s).ty = s.ty := rfl
@[simp] theorem clearFault_tool : (clearFault s).tool = s.tool := rfl
@[simp] theorem clearFault_data : (clearFault s).data = s.data := rfl
@[simp] theorem clearFault_start : (clearFault s).start = s.start := rfl
@[simp] theorem clearFault_endFlag : (clearFault s).endFlag = s.endFlag := rfl
@[simp] theorem clearFault_fault : (clearFault s).fault = false := rfl
@[simp] theorem clearFault_faultCode : (clearFault s).faultCode = 0 := rfl
@[simp] theorem clearFault_faultByte : (clearFault s).faultByte = 0 := rfl
@[simp] theorem clearFault_faultAt : (clearFault s).faultAt = 0 := rfl
@[simp] theorem clearFault_phase : (clearFault s).phase = s.phase := rfl
@[simp] theorem clearFault_stream : (clearFault s).stream = s.stream := rfl
@[simp] theorem clearFault_streamLen : (clearFault s).streamLen = s.streamLen := rfl
@[simp] theorem clearFault_events : (clearFault s).events = s.events := rfl
@[simp] theorem clearFault_reply : (clearFault s).reply = s.reply := rfl
@[simp] theorem clearFault_launched : (clearFault s).launched = s.launched := rfl
@[simp] theorem clearFault_hostMoves : (clearFault s).hostMoves = s.hostMoves := rfl

@[simp] theorem applyInitial_x : (applyInitial s).x = 0 := rfl
@[simp] theorem applyInitial_y : (applyInitial s).y = 0 := rfl
@[simp] theorem applyInitial_tx : (applyInitial s).tx = 0 := rfl
@[simp] theorem applyInitial_ty : (applyInitial s).ty = 0 := rfl
@[simp] theorem applyInitial_tool : (applyInitial s).tool = Config.resetTool := rfl
@[simp] theorem applyInitial_data : (applyInitial s).data = 0 := rfl
@[simp] theorem applyInitial_start : (applyInitial s).start = 0 := rfl
@[simp] theorem applyInitial_endFlag : (applyInitial s).endFlag = false := rfl
@[simp] theorem applyInitial_fault : (applyInitial s).fault = s.fault := rfl
@[simp] theorem applyInitial_faultCode : (applyInitial s).faultCode = s.faultCode := rfl
@[simp] theorem applyInitial_faultByte : (applyInitial s).faultByte = s.faultByte := rfl
@[simp] theorem applyInitial_faultAt : (applyInitial s).faultAt = s.faultAt := rfl
@[simp] theorem applyInitial_phase : (applyInitial s).phase = .idle := rfl
@[simp] theorem applyInitial_stream : (applyInitial s).stream = s.stream := rfl
@[simp] theorem applyInitial_streamLen : (applyInitial s).streamLen = s.streamLen := rfl
@[simp] theorem applyInitial_events : (applyInitial s).events = s.events := rfl
@[simp] theorem applyInitial_reply : (applyInitial s).reply = s.reply := rfl
@[simp] theorem applyInitial_launched : (applyInitial s).launched = s.launched := rfl
@[simp] theorem applyInitial_hostMoves : (applyInitial s).hostMoves = s.hostMoves := rfl

@[simp] theorem placeByte_x (a : Nat) (b : Byte) : (placeByte a b s).x = s.x := rfl
@[simp] theorem placeByte_y (a : Nat) (b : Byte) : (placeByte a b s).y = s.y := rfl
@[simp] theorem placeByte_tx (a : Nat) (b : Byte) : (placeByte a b s).tx = s.tx := rfl
@[simp] theorem placeByte_ty (a : Nat) (b : Byte) : (placeByte a b s).ty = s.ty := rfl
@[simp] theorem placeByte_tool (a : Nat) (b : Byte) : (placeByte a b s).tool = s.tool := rfl
@[simp] theorem placeByte_data (a : Nat) (b : Byte) : (placeByte a b s).data = s.data := rfl
@[simp] theorem placeByte_start (a : Nat) (b : Byte) : (placeByte a b s).start = s.start := rfl
@[simp] theorem placeByte_endFlag (a : Nat) (b : Byte) : (placeByte a b s).endFlag = s.endFlag := rfl
@[simp] theorem placeByte_fault (a : Nat) (b : Byte) : (placeByte a b s).fault = s.fault := rfl
@[simp] theorem placeByte_faultCode (a : Nat) (b : Byte) : (placeByte a b s).faultCode = s.faultCode := rfl
@[simp] theorem placeByte_faultByte (a : Nat) (b : Byte) : (placeByte a b s).faultByte = s.faultByte := rfl
@[simp] theorem placeByte_faultAt (a : Nat) (b : Byte) : (placeByte a b s).faultAt = s.faultAt := rfl
@[simp] theorem placeByte_phase (a : Nat) (b : Byte) : (placeByte a b s).phase = s.phase := rfl
@[simp] theorem placeByte_stream (a : Nat) (b : Byte) : (placeByte a b s).stream = Memory.write s.stream a b := rfl
@[simp] theorem placeByte_streamLen (a : Nat) (b : Byte) : (placeByte a b s).streamLen = max s.streamLen (a + 1) := rfl
@[simp] theorem placeByte_events (a : Nat) (b : Byte) : (placeByte a b s).events = s.events := rfl
@[simp] theorem placeByte_reply (a : Nat) (b : Byte) : (placeByte a b s).reply = s.reply := rfl
@[simp] theorem placeByte_launched (a : Nat) (b : Byte) : (placeByte a b s).launched = s.launched := rfl
@[simp] theorem placeByte_hostMoves (a : Nat) (b : Byte) : (placeByte a b s).hostMoves = s.hostMoves := rfl

@[simp] theorem returnWith_x (st : Status) : (returnWith st s).x = s.x := rfl
@[simp] theorem returnWith_y (st : Status) : (returnWith st s).y = s.y := rfl
@[simp] theorem returnWith_tx (st : Status) : (returnWith st s).tx = s.tx := rfl
@[simp] theorem returnWith_ty (st : Status) : (returnWith st s).ty = s.ty := rfl
@[simp] theorem returnWith_tool (st : Status) : (returnWith st s).tool = s.tool := rfl
@[simp] theorem returnWith_data (st : Status) : (returnWith st s).data = s.data := rfl
@[simp] theorem returnWith_start (st : Status) : (returnWith st s).start = s.start := rfl
@[simp] theorem returnWith_endFlag (st : Status) : (returnWith st s).endFlag = s.endFlag := rfl
@[simp] theorem returnWith_fault (st : Status) : (returnWith st s).fault = s.fault := rfl
@[simp] theorem returnWith_faultCode (st : Status) : (returnWith st s).faultCode = s.faultCode := rfl
@[simp] theorem returnWith_faultByte (st : Status) : (returnWith st s).faultByte = s.faultByte := rfl
@[simp] theorem returnWith_faultAt (st : Status) : (returnWith st s).faultAt = s.faultAt := rfl
@[simp] theorem returnWith_phase (st : Status) : (returnWith st s).phase = .idle := rfl
@[simp] theorem returnWith_stream (st : Status) : (returnWith st s).stream = s.stream := rfl
@[simp] theorem returnWith_streamLen (st : Status) : (returnWith st s).streamLen = s.streamLen := rfl
@[simp] theorem returnWith_events (st : Status) : (returnWith st s).events = s.events := rfl
@[simp] theorem returnWith_reply (st : Status) : (returnWith st s).reply = some (.status st) := rfl
@[simp] theorem returnWith_launched (st : Status) : (returnWith st s).launched = s.launched := rfl
@[simp] theorem returnWith_hostMoves (st : Status) : (returnWith st s).hostMoves = s.hostMoves := rfl

@[simp] theorem exhaust_x : (exhaust s).x = 0 := rfl
@[simp] theorem exhaust_y : (exhaust s).y = 0 := rfl
@[simp] theorem exhaust_tx : (exhaust s).tx = 0 := rfl
@[simp] theorem exhaust_ty : (exhaust s).ty = 0 := rfl
@[simp] theorem exhaust_tool : (exhaust s).tool = Config.resetTool := rfl
@[simp] theorem exhaust_data : (exhaust s).data = 0 := rfl
@[simp] theorem exhaust_start : (exhaust s).start = 0 := rfl
@[simp] theorem exhaust_endFlag : (exhaust s).endFlag = false := rfl
@[simp] theorem exhaust_fault : (exhaust s).fault = s.fault := rfl
@[simp] theorem exhaust_faultCode : (exhaust s).faultCode = s.faultCode := rfl
@[simp] theorem exhaust_faultByte : (exhaust s).faultByte = s.faultByte := rfl
@[simp] theorem exhaust_faultAt : (exhaust s).faultAt = s.faultAt := rfl
@[simp] theorem exhaust_phase : (exhaust s).phase = .idle := rfl
@[simp] theorem exhaust_stream : (exhaust s).stream = s.stream := rfl
@[simp] theorem exhaust_streamLen : (exhaust s).streamLen = s.streamLen := rfl
@[simp] theorem exhaust_events : (exhaust s).events = s.events := rfl
@[simp] theorem exhaust_reply : (exhaust s).reply = some (.status .exhausted) := rfl
@[simp] theorem exhaust_launched : (exhaust s).launched = s.launched := rfl
@[simp] theorem exhaust_hostMoves : (exhaust s).hostMoves = s.hostMoves := rfl

@[simp] theorem answer_x (r : Option HostReply) : (answer r s).x = s.x := rfl
@[simp] theorem answer_y (r : Option HostReply) : (answer r s).y = s.y := rfl
@[simp] theorem answer_tx (r : Option HostReply) : (answer r s).tx = s.tx := rfl
@[simp] theorem answer_ty (r : Option HostReply) : (answer r s).ty = s.ty := rfl
@[simp] theorem answer_tool (r : Option HostReply) : (answer r s).tool = s.tool := rfl
@[simp] theorem answer_data (r : Option HostReply) : (answer r s).data = s.data := rfl
@[simp] theorem answer_start (r : Option HostReply) : (answer r s).start = s.start := rfl
@[simp] theorem answer_endFlag (r : Option HostReply) : (answer r s).endFlag = s.endFlag := rfl
@[simp] theorem answer_fault (r : Option HostReply) : (answer r s).fault = s.fault := rfl
@[simp] theorem answer_faultCode (r : Option HostReply) : (answer r s).faultCode = s.faultCode := rfl
@[simp] theorem answer_faultByte (r : Option HostReply) : (answer r s).faultByte = s.faultByte := rfl
@[simp] theorem answer_faultAt (r : Option HostReply) : (answer r s).faultAt = s.faultAt := rfl
@[simp] theorem answer_phase (r : Option HostReply) : (answer r s).phase = s.phase := rfl
@[simp] theorem answer_stream (r : Option HostReply) : (answer r s).stream = s.stream := rfl
@[simp] theorem answer_streamLen (r : Option HostReply) : (answer r s).streamLen = s.streamLen := rfl
@[simp] theorem answer_events (r : Option HostReply) : (answer r s).events = s.events := rfl
@[simp] theorem answer_reply (r : Option HostReply) : (answer r s).reply = r := rfl
@[simp] theorem answer_launched (r : Option HostReply) : (answer r s).launched = s.launched := rfl
@[simp] theorem answer_hostMoves (r : Option HostReply) : (answer r s).hostMoves = s.hostMoves := rfl

@[simp] theorem beginRunning_x : (beginRunning s).x = s.x := rfl
@[simp] theorem beginRunning_y : (beginRunning s).y = s.y := rfl
@[simp] theorem beginRunning_tx : (beginRunning s).tx = s.tx := rfl
@[simp] theorem beginRunning_ty : (beginRunning s).ty = s.ty := rfl
@[simp] theorem beginRunning_tool : (beginRunning s).tool = s.tool := rfl
@[simp] theorem beginRunning_data : (beginRunning s).data = s.data := rfl
@[simp] theorem beginRunning_start : (beginRunning s).start = s.start := rfl
@[simp] theorem beginRunning_endFlag : (beginRunning s).endFlag = s.endFlag := rfl
@[simp] theorem beginRunning_fault : (beginRunning s).fault = s.fault := rfl
@[simp] theorem beginRunning_faultCode : (beginRunning s).faultCode = s.faultCode := rfl
@[simp] theorem beginRunning_faultByte : (beginRunning s).faultByte = s.faultByte := rfl
@[simp] theorem beginRunning_faultAt : (beginRunning s).faultAt = s.faultAt := rfl
@[simp] theorem beginRunning_phase : (beginRunning s).phase = .running := rfl
@[simp] theorem beginRunning_stream : (beginRunning s).stream = s.stream := rfl
@[simp] theorem beginRunning_streamLen : (beginRunning s).streamLen = s.streamLen := rfl
@[simp] theorem beginRunning_events : (beginRunning s).events = [] := rfl
@[simp] theorem beginRunning_reply : (beginRunning s).reply = none := rfl
@[simp] theorem beginRunning_launched : (beginRunning s).launched = true := rfl
@[simp] theorem beginRunning_hostMoves : (beginRunning s).hostMoves = s.hostMoves := rfl

@[simp] theorem refuseFaulted_x : (refuseFaulted s).x = s.x := rfl
@[simp] theorem refuseFaulted_y : (refuseFaulted s).y = s.y := rfl
@[simp] theorem refuseFaulted_tx : (refuseFaulted s).tx = s.tx := rfl
@[simp] theorem refuseFaulted_ty : (refuseFaulted s).ty = s.ty := rfl
@[simp] theorem refuseFaulted_tool : (refuseFaulted s).tool = s.tool := rfl
@[simp] theorem refuseFaulted_data : (refuseFaulted s).data = s.data := rfl
@[simp] theorem refuseFaulted_start : (refuseFaulted s).start = s.start := rfl
@[simp] theorem refuseFaulted_endFlag : (refuseFaulted s).endFlag = s.endFlag := rfl
@[simp] theorem refuseFaulted_fault : (refuseFaulted s).fault = s.fault := rfl
@[simp] theorem refuseFaulted_faultCode : (refuseFaulted s).faultCode = s.faultCode := rfl
@[simp] theorem refuseFaulted_faultByte : (refuseFaulted s).faultByte = s.faultByte := rfl
@[simp] theorem refuseFaulted_faultAt : (refuseFaulted s).faultAt = s.faultAt := rfl
@[simp] theorem refuseFaulted_phase : (refuseFaulted s).phase = s.phase := rfl
@[simp] theorem refuseFaulted_stream : (refuseFaulted s).stream = s.stream := rfl
@[simp] theorem refuseFaulted_streamLen : (refuseFaulted s).streamLen = s.streamLen := rfl
@[simp] theorem refuseFaulted_events : (refuseFaulted s).events = [] := rfl
@[simp] theorem refuseFaulted_reply : (refuseFaulted s).reply = some (.status .fault) := rfl
@[simp] theorem refuseFaulted_launched : (refuseFaulted s).launched = s.launched := rfl
@[simp] theorem refuseFaulted_hostMoves : (refuseFaulted s).hostMoves = s.hostMoves := rfl

@[simp] theorem hostReset_x : (hostReset s).x = 0 := rfl
@[simp] theorem hostReset_y : (hostReset s).y = 0 := rfl
@[simp] theorem hostReset_tx : (hostReset s).tx = 0 := rfl
@[simp] theorem hostReset_ty : (hostReset s).ty = 0 := rfl
@[simp] theorem hostReset_tool : (hostReset s).tool = Config.resetTool := rfl
@[simp] theorem hostReset_data : (hostReset s).data = 0 := rfl
@[simp] theorem hostReset_start : (hostReset s).start = 0 := rfl
@[simp] theorem hostReset_endFlag : (hostReset s).endFlag = false := rfl
@[simp] theorem hostReset_fault : (hostReset s).fault = false := rfl
@[simp] theorem hostReset_faultCode : (hostReset s).faultCode = 0 := rfl
@[simp] theorem hostReset_faultByte : (hostReset s).faultByte = 0 := rfl
@[simp] theorem hostReset_faultAt : (hostReset s).faultAt = 0 := rfl
@[simp] theorem hostReset_phase : (hostReset s).phase = .idle := rfl
@[simp] theorem hostReset_stream : (hostReset s).stream = s.stream := rfl
@[simp] theorem hostReset_streamLen : (hostReset s).streamLen = s.streamLen := rfl
@[simp] theorem hostReset_events : (hostReset s).events = s.events := rfl
@[simp] theorem hostReset_reply : (hostReset s).reply = none := rfl
@[simp] theorem hostReset_launched : (hostReset s).launched = s.launched := rfl
@[simp] theorem hostReset_hostMoves : (hostReset s).hostMoves = s.hostMoves := rfl

@[simp] theorem setStream_x (bs : List Byte) : (setStream bs s).x = s.x := rfl
@[simp] theorem setStream_y (bs : List Byte) : (setStream bs s).y = s.y := rfl
@[simp] theorem setStream_tx (bs : List Byte) : (setStream bs s).tx = s.tx := rfl
@[simp] theorem setStream_ty (bs : List Byte) : (setStream bs s).ty = s.ty := rfl
@[simp] theorem setStream_tool (bs : List Byte) : (setStream bs s).tool = s.tool := rfl
@[simp] theorem setStream_data (bs : List Byte) : (setStream bs s).data = s.data := rfl
@[simp] theorem setStream_start (bs : List Byte) : (setStream bs s).start = s.start := rfl
@[simp] theorem setStream_endFlag (bs : List Byte) : (setStream bs s).endFlag = s.endFlag := rfl
@[simp] theorem setStream_fault (bs : List Byte) : (setStream bs s).fault = s.fault := rfl
@[simp] theorem setStream_faultCode (bs : List Byte) : (setStream bs s).faultCode = s.faultCode := rfl
@[simp] theorem setStream_faultByte (bs : List Byte) : (setStream bs s).faultByte = s.faultByte := rfl
@[simp] theorem setStream_faultAt (bs : List Byte) : (setStream bs s).faultAt = s.faultAt := rfl
@[simp] theorem setStream_phase (bs : List Byte) : (setStream bs s).phase = s.phase := rfl
@[simp] theorem setStream_stream (bs : List Byte) : (setStream bs s).stream = Memory.ofBytes 0 bs := rfl
@[simp] theorem setStream_streamLen (bs : List Byte) : (setStream bs s).streamLen = bs.length := rfl
@[simp] theorem setStream_events (bs : List Byte) : (setStream bs s).events = s.events := rfl
@[simp] theorem setStream_reply (bs : List Byte) : (setStream bs s).reply = s.reply := rfl
@[simp] theorem setStream_launched (bs : List Byte) : (setStream bs s).launched = s.launched := rfl
@[simp] theorem setStream_hostMoves (bs : List Byte) : (setStream bs s).hostMoves = s.hostMoves := rfl

@[simp] theorem restore_x (t : ContinuationTuple) (m : ToolMode) : (restore t m s).x = BitVec.ofInt 32 t.x := rfl
@[simp] theorem restore_y (t : ContinuationTuple) (m : ToolMode) : (restore t m s).y = BitVec.ofInt 32 t.y := rfl
@[simp] theorem restore_tx (t : ContinuationTuple) (m : ToolMode) : (restore t m s).tx = BitVec.ofInt 32 t.tx := rfl
@[simp] theorem restore_ty (t : ContinuationTuple) (m : ToolMode) : (restore t m s).ty = BitVec.ofInt 32 t.ty := rfl
@[simp] theorem restore_tool (t : ContinuationTuple) (m : ToolMode) : (restore t m s).tool = m := rfl
@[simp] theorem restore_data (t : ContinuationTuple) (m : ToolMode) : (restore t m s).data = BitVec.ofNat 32 t.data := rfl
@[simp] theorem restore_start (t : ContinuationTuple) (m : ToolMode) : (restore t m s).start = BitVec.ofNat 32 t.start := rfl
@[simp] theorem restore_endFlag (t : ContinuationTuple) (m : ToolMode) : (restore t m s).endFlag = decide (t.endFlag = 1) := rfl
@[simp] theorem restore_fault (t : ContinuationTuple) (m : ToolMode) : (restore t m s).fault = s.fault := rfl
@[simp] theorem restore_faultCode (t : ContinuationTuple) (m : ToolMode) : (restore t m s).faultCode = s.faultCode := rfl
@[simp] theorem restore_faultByte (t : ContinuationTuple) (m : ToolMode) : (restore t m s).faultByte = s.faultByte := rfl
@[simp] theorem restore_faultAt (t : ContinuationTuple) (m : ToolMode) : (restore t m s).faultAt = s.faultAt := rfl
@[simp] theorem restore_phase (t : ContinuationTuple) (m : ToolMode) : (restore t m s).phase = s.phase := rfl
@[simp] theorem restore_stream (t : ContinuationTuple) (m : ToolMode) : (restore t m s).stream = s.stream := rfl
@[simp] theorem restore_streamLen (t : ContinuationTuple) (m : ToolMode) : (restore t m s).streamLen = s.streamLen := rfl
@[simp] theorem restore_events (t : ContinuationTuple) (m : ToolMode) : (restore t m s).events = s.events := rfl
@[simp] theorem restore_reply (t : ContinuationTuple) (m : ToolMode) : (restore t m s).reply = s.reply := rfl
@[simp] theorem restore_launched (t : ContinuationTuple) (m : ToolMode) : (restore t m s).launched = s.launched := rfl
@[simp] theorem restore_hostMoves (t : ContinuationTuple) (m : ToolMode) : (restore t m s).hostMoves = s.hostMoves := rfl

@[simp] theorem setMoves_x (ms : List HostMove) : (setMoves ms s).x = s.x := rfl
@[simp] theorem setMoves_y (ms : List HostMove) : (setMoves ms s).y = s.y := rfl
@[simp] theorem setMoves_tx (ms : List HostMove) : (setMoves ms s).tx = s.tx := rfl
@[simp] theorem setMoves_ty (ms : List HostMove) : (setMoves ms s).ty = s.ty := rfl
@[simp] theorem setMoves_tool (ms : List HostMove) : (setMoves ms s).tool = s.tool := rfl
@[simp] theorem setMoves_data (ms : List HostMove) : (setMoves ms s).data = s.data := rfl
@[simp] theorem setMoves_start (ms : List HostMove) : (setMoves ms s).start = s.start := rfl
@[simp] theorem setMoves_endFlag (ms : List HostMove) : (setMoves ms s).endFlag = s.endFlag := rfl
@[simp] theorem setMoves_fault (ms : List HostMove) : (setMoves ms s).fault = s.fault := rfl
@[simp] theorem setMoves_faultCode (ms : List HostMove) : (setMoves ms s).faultCode = s.faultCode := rfl
@[simp] theorem setMoves_faultByte (ms : List HostMove) : (setMoves ms s).faultByte = s.faultByte := rfl
@[simp] theorem setMoves_faultAt (ms : List HostMove) : (setMoves ms s).faultAt = s.faultAt := rfl
@[simp] theorem setMoves_phase (ms : List HostMove) : (setMoves ms s).phase = s.phase := rfl
@[simp] theorem setMoves_stream (ms : List HostMove) : (setMoves ms s).stream = s.stream := rfl
@[simp] theorem setMoves_streamLen (ms : List HostMove) : (setMoves ms s).streamLen = s.streamLen := rfl
@[simp] theorem setMoves_events (ms : List HostMove) : (setMoves ms s).events = s.events := rfl
@[simp] theorem setMoves_reply (ms : List HostMove) : (setMoves ms s).reply = s.reply := rfl
@[simp] theorem setMoves_launched (ms : List HostMove) : (setMoves ms s).launched = s.launched := rfl
@[simp] theorem setMoves_hostMoves (ms : List HostMove) : (setMoves ms s).hostMoves = ms := rfl

end Sys2Proof.Machine
end

