-- ==== Sys2Proof/Laws/Memory.lean ====
section
/-! SUPPORT. The stream's list: every operation keeps its canonical form, and reads give what was stored. -/

namespace Sys2Proof.Machine

theorem mem_of_mem_cons {a : Nat} {b : Byte} {m : Memory} {c : Host.Cell} (h : c ∈ Memory.cons a b m) :
    c = (a, b) ∨ c ∈ m := by
  unfold Memory.cons at h
  split at h
  · exact .inr h
  · simpa using h

theorem memory_cons_wf {a : Nat} {b : Byte} {m : Memory} (hm : Memory.wf m) (ha : ∀ c ∈ m, a < c.1) :
    Memory.wf (Memory.cons a b m) := by
  unfold Memory.cons
  split
  · exact hm
  · next hb => exact ⟨List.pairwise_cons.2 ⟨ha, hm.1⟩, by simpa [hb] using hm.2⟩

theorem mem_of_mem_write {m : Memory} {a : Nat} {b : Byte} {c : Host.Cell} (h : c ∈ Memory.write m a b) :
    c = (a, b) ∨ c ∈ m := by
  induction m with
  | nil => simpa using mem_of_mem_cons h
  | cons e m ih =>
    obtain ⟨k, d⟩ := e
    simp only [Memory.write] at h
    split at h
    · exact mem_of_mem_cons h
    split at h
    · exact (mem_of_mem_cons h).imp_right (List.mem_cons_of_mem _)
    · rcases List.mem_cons.1 h with rfl | h
      · exact .inr (List.mem_cons_self ..)
      · exact (ih h).imp_right (List.mem_cons_of_mem _)

/-- A write keeps the canonical form. -/
theorem memory_write_wf {m : Memory} (a : Nat) (b : Byte) (hm : Memory.wf m) : Memory.wf (Memory.write m a b) := by
  induction m with
  | nil => exact memory_cons_wf hm (by simp)
  | cons e m ih =>
    obtain ⟨k, d⟩ := e
    have hp := List.pairwise_cons.1 hm.1
    have hm' : Memory.wf m := ⟨hp.2, fun c hc => hm.2 c (List.mem_cons_of_mem _ hc)⟩
    have above {c : Host.Cell} (hc : c ∈ m) : k < c.1 := hp.1 c hc
    simp only [Memory.write]
    split
    · next h =>
      refine memory_cons_wf hm fun c hc => ?_
      rcases List.mem_cons.1 hc with rfl | hc
      · exact h
      · exact h.trans (above hc)
    split
    · next h => exact memory_cons_wf hm' fun c hc => h ▸ above hc
    · next h1 h2 =>
      refine ⟨List.pairwise_cons.2 ⟨fun c hc => ?_, (ih hm').1⟩, fun c hc => ?_⟩
      · rcases mem_of_mem_write hc with rfl | hc
        · exact lt_of_le_of_ne (not_lt.1 h1) (Ne.symm h2)
        · exact above hc
      · rcases List.mem_cons.1 hc with rfl | hc
        · exact hm.2 _ (List.mem_cons_self ..)
        · exact (ih hm').2 c hc

theorem mem_ofBytes_range {bs : List Byte} {a : Nat} {c : Host.Cell} (h : c ∈ Memory.ofBytes a bs) :
    a ≤ c.1 ∧ c.1 < a + bs.length := by
  induction bs generalizing a with
  | nil => simp [Memory.ofBytes] at h
  | cons b bs ih =>
    rcases mem_of_mem_cons h with rfl | h
    · simp
    · have := ih h
      simp only [List.length_cons]
      omega

/-- A loaded stream is in the canonical form. -/
theorem memory_ofBytes_wf (bs : List Byte) (a : Nat) : Memory.wf (Memory.ofBytes a bs) := by
  induction bs generalizing a with
  | nil => exact ⟨.nil, by simp [Memory.ofBytes]⟩
  | cons b bs ih => exact memory_cons_wf (ih _) fun c hc => Nat.lt_of_succ_le (mem_ofBytes_range hc).1

theorem reset_stream_wf : Memory.wf State.reset.stream := ⟨.nil, by simp [State.reset]⟩

theorem memory_read_above {m : Memory} {a : Nat} (h : ∀ c ∈ m, a < c.1) : Memory.read m a = Memory.unlisted := by
  induction m with
  | nil => rfl
  | cons e m ih =>
    have he := h e (List.mem_cons_self ..)
    simp only [Memory.read]
    rw [if_neg (by omega), ih fun c hc => h c (List.mem_cons_of_mem _ hc)]

/-- A put in front is read back at its own offset, where nothing else is listed. -/
theorem memory_read_cons {m : Memory} {a : Nat} (b : Byte) (h : ∀ c ∈ m, a < c.1) (x : Nat) :
    Memory.read (Memory.cons a b m) x = if x = a then b else Memory.read m x := by
  unfold Memory.cons
  split
  · next hb =>
    split
    · next hx => rw [hx, memory_read_above h, hb]
    · rfl
  · rfl

/-- Reading after a write: the byte written at its offset, every other offset as before. -/
theorem memory_read_write {m : Memory} (hm : Memory.wf m) (a : Nat) (b : Byte) (x : Nat) :
    Memory.read (Memory.write m a b) x = if x = a then b else Memory.read m x := by
  induction m with
  | nil => exact memory_read_cons b (by simp) x
  | cons e m ih =>
    obtain ⟨k, d⟩ := e
    have hp := List.pairwise_cons.1 hm.1
    have hm' : Memory.wf m := ⟨hp.2, fun c hc => hm.2 c (List.mem_cons_of_mem _ hc)⟩
    simp only [Memory.write]
    split
    · next h =>
      refine memory_read_cons b (fun c hc => ?_) x
      rcases List.mem_cons.1 hc with rfl | hc
      · exact h
      · exact h.trans (hp.1 c hc)
    split
    · next h =>
      rw [memory_read_cons b (fun c hc => h ▸ hp.1 c hc)]
      simp only [Memory.read]
      split <;> simp_all
    · next h1 h2 =>
      simp only [Memory.read, ih hm']
      split
      · next h => rw [if_neg (by omega)]
      · rfl

/-- A loaded stream reads as the bytes loaded. -/
theorem memory_read_ofBytes (bs : List Byte) (a x : Nat) (h : a ≤ x) :
    Memory.read (Memory.ofBytes a bs) x = bs.getD (x - a) Memory.unlisted := by
  induction bs generalizing a with
  | nil => simp [Memory.ofBytes, Memory.read]
  | cons b bs ih =>
    rw [Memory.ofBytes, memory_read_cons b fun c hc => Nat.lt_of_succ_le (mem_ofBytes_range hc).1]
    split
    · next hx => simp [hx]
    · next hx =>
      rw [ih (a + 1) (by omega), show x - a = (x - (a + 1)) + 1 by omega]
      rfl

end Sys2Proof.Machine
end

