-- ==== Sys2Proof/Laws/Step.lean ====
section
/-! SUPPORT. What a step, a move of the host, an instruction and the tests after it can do: one inversion
lemma for each, to be cited instead of unfolding them. -/

namespace Sys2Proof.Machine

/-- What an instruction's meaning leaves, as one composition of named operations. -/
def effectOf (i : Instr) (s : State) : State :=
  match i with
  | .dx d => advance (setTx (s.tx + d) s)
  | .dy d => advance (commitCursor (drawWithTool (setTy (s.ty + d) s)))
  | .toolNone => advance (clearData (setTool .none s))
  | .toolLine => advance (clearData (setTool .line s))
  | .toolBlock => advance (clearData (setTool .block s))
  | .toolColour => advance (clearData (emit (.setColour s.data) s))
  | .toolTargetX => advance (clearData (setTx s.data s))
  | .toolTargetY => advance (clearData (setTy s.data s))
  | .toolShow => advance (clearData (emit .present s))
  | .toolPause => advance (clearData (emit (.pause s.data) s))
  | .toolNextframe => advance (clearData (raiseEnd s))
  | .data f => advance (setData (shiftInField s.data f) s)
  | .toolReserved c => raiseFault 1 (joinByte 2 c) s.start s

theorem exec_eq_effectOf (i : Instr) (s : State) : exec i s = .next (effectOf i s) := by
  cases i <;> rfl

theorem effectOf_of_exec {i : Instr} {s t : State} (h : exec i s = .next t) : t = effectOf i s := by
  rw [exec_eq_effectOf] at h
  exact (Host.Outcome.next.inj h).symm

theorem settle_cases (s : State) :
    (s.fault = true ∧ settle s = returnWith .fault s) ∨
    (s.fault = false ∧ s.endFlag = true ∧ settle s = returnWith .frame s) ∨
    (s.fault = false ∧ s.endFlag = false ∧ settle s = s) := by
  unfold settle
  cases hf : s.fault <;> cases he : s.endFlag <;> simp

theorem atEnd_iff (s : State) : atEnd s = true ↔ s.streamLen ≤ s.start.toNat := by
  simp [atEnd]

theorem memRead_of_lt {s : State} {a : Nat} (h : a < s.streamLen) : memRead s a = .ok (Memory.read s.stream a) :=
  if_pos h

theorem fetch_of_not_atEnd {s : State} (h : atEnd s = false) : fetch s = .ok (instrAt s s.start.toNat) := by
  have h' : s.start.toNat < s.streamLen := by simpa [atEnd] using h
  rw [fetch, memRead_of_lt h']
  rfl

/-- Everything a step can answer. -/
theorem step_cases (s : State) :
    (s.phase = .idle ∧ s.hostMoves = [] ∧ step s = .next s) ∨
    (s.phase = .idle ∧ ∃ m ms, s.hostMoves = m :: ms ∧ step s = hostMove m (setMoves ms s)) ∨
    (s.phase = .running ∧ s.fault = true ∧ step s = .next (returnWith .fault s)) ∨
    (s.phase = .running ∧ s.fault = false ∧ atEnd s = true ∧ step s = .next (exhaust s)) ∨
    (s.phase = .running ∧ s.fault = false ∧ atEnd s = false ∧
      step s = .next (settle (effectOf (instrAt s s.start.toNat) s))) := by
  cases hp : s.phase with
  | idle =>
    cases hm : s.hostMoves with
    | nil => exact .inl ⟨rfl, rfl, by simp [step, hp, idleStep, hm]⟩
    | cons m ms => exact .inr (.inl ⟨rfl, m, ms, rfl, by simp [step, hp, idleStep, hm]⟩)
  | running =>
    cases hf : s.fault with
    | true => exact .inr (.inr (.inl ⟨rfl, rfl, by simp [step, hp, hf]⟩))
    | false =>
      cases he : atEnd s with
      | true => exact .inr (.inr (.inr (.inl ⟨rfl, rfl, rfl, by simp [step, hp, hf, he]⟩)))
      | false =>
        refine .inr (.inr (.inr (.inr ⟨rfl, rfl, rfl, ?_⟩)))
        simp [step, hp, hf, he, fetch_of_not_atEnd he, exec_eq_effectOf, settleOutcome]

/-- Everything a move of the host can answer as a next state. -/
theorem hostMove_cases {m : HostMove} {s t : State} (h : hostMove m s = .next t) :
    (∃ bs, m = .load bs ∧ s.launched = false ∧ bs.length ≤ Config.maxStreamLen ∧
      t = answer none (setStream bs s)) ∨
    (m = .reset ∧ t = hostReset s) ∨
    (m = .run ∧ s.fault = true ∧ t = refuseFaulted s) ∨
    (m = .run ∧ s.fault = false ∧ t = beginRunning (lowerEnd s)) ∨
    (∃ c k, m = .writeContinuation c ∧ toolOfCode c.tool = some k ∧ continuationFits c = true ∧
      t = answer none (restore c k s)) ∨
    ((m = .readContinuation ∨ m = .readFaultStatus ∨ m = .stop) ∧ ∃ r, t = answer r s) := by
  cases m with
  | load bs =>
    simp only [hostMove, hostLoad] at h
    split at h
    · cases h
    split at h
    · cases h
    · next h1 h2 => exact .inl ⟨bs, rfl, by simpa using h1, by omega, (Host.Outcome.next.inj h).symm⟩
  | reset => exact .inr (.inl ⟨rfl, (Host.Outcome.next.inj h).symm⟩)
  | run =>
    simp only [hostMove, hostRun] at h
    split at h
    · next hf => exact .inr (.inr (.inl ⟨rfl, hf, (Host.Outcome.next.inj h).symm⟩))
    · next hf => exact .inr (.inr (.inr (.inl ⟨rfl, by simpa using hf, (Host.Outcome.next.inj h).symm⟩)))
  | writeContinuation c =>
    simp only [hostMove, hostWriteContinuation] at h
    split at h
    · next k hk =>
      split at h
      · next hc =>
        exact .inr (.inr (.inr (.inr (.inl ⟨c, k, rfl, hk, hc, (Host.Outcome.next.inj h).symm⟩))))
      · cases h
    · cases h
  | readContinuation =>
    exact .inr (.inr (.inr (.inr (.inr ⟨.inl rfl, _, (Host.Outcome.next.inj h).symm⟩))))
  | readFaultStatus =>
    exact .inr (.inr (.inr (.inr (.inr ⟨.inr (.inl rfl), _, (Host.Outcome.next.inj h).symm⟩))))
  | stop => exact .inr (.inr (.inr (.inr (.inr ⟨.inr (.inr rfl), _, (Host.Outcome.next.inj h).symm⟩))))

end Sys2Proof.Machine
end

