-- ==== Sys2Proof/Laws/Fetch.lean ====
section
/-! SUPPORT. A word placed for the next fetch is the instruction the next step runs. -/

namespace Sys2Proof.Machine

theorem tableBytes_byte (w : Nat) (h : w < 256) : tableBytes 8 w = [BitVec.ofNat 8 w] := by
  simp [tableBytes, List.range_succ, Nat.mod_eq_of_lt h]

theorem decodeTableWord_byte (w : Nat) (h : w < 256) : decodeTableWord 8 w = some (decodeByte (BitVec.ofNat 8 w)) := by
  simp [decodeTableWord, tableBytes_byte w h, decode]

/-- The step after placing a word runs its instruction, with the session's tests after it. -/
theorem step_withFetchWord (s : State) (w : Nat) (hs : Memory.wf s.stream) (h : w < 256) :
    step (s.withFetchWord 8 w) = settleOutcome (exec (decodeByte (BitVec.ofNat 8 w)) (s.withFetchWord 8 w)) := by
  have he : atEnd (s.withFetchWord 8 w) = false := by simp [atEnd, State.withFetchWord]
  have hf : fetch (s.withFetchWord 8 w) = .ok (decodeByte (BitVec.ofNat 8 w)) := by
    rw [fetch_of_not_atEnd he]
    simp [instrAt, State.withFetchWord, memory_read_write hs, tableBytes_byte w h]
  have hp : (s.withFetchWord 8 w).phase = .running := rfl
  have hn : (s.withFetchWord 8 w).fault = false := rfl
  simp [step, hp, hn, he, hf]

end Sys2Proof.Machine
end

