-- ==== Sys2Proof/Laws/Operands.lean ====
section
/-! SUPPORT. The operand forms in exact arithmetic. -/

namespace Sys2Proof.Machine

/-- A field shifted in: base 64, modulo 2^32. -/
theorem shiftInField_toNat (a : Acc) (f : Field6) :
    (shiftInField a f).toNat = (a.toNat * 64 + f.toNat) % 2 ^ 32 := by
  have disjoint : (a <<< 6) &&& f.setWidth 32 = 0#32 := by
    ext i hi
    simp only [BitVec.getElem_and, BitVec.getElem_shiftLeft, BitVec.getElem_setWidth, BitVec.getElem_zero]
    by_cases h : i < 6
    · simp [h]
    · simp [BitVec.getLsbD_of_ge f i (by omega)]
  rw [shiftInField, ← BitVec.add_eq_or_of_and_eq_zero _ _ disjoint]
  have := f.isLt
  simp [BitVec.toNat_shiftLeft, Nat.shiftLeft_eq]

theorem toolOfCode_toolCode (m : ToolMode) : toolOfCode (toolCode m).toNat = some m := by
  cases m <;> rfl

theorem toolCode_of_toolOfCode {n : Nat} {m : ToolMode} (h : toolOfCode n = some m) : (toolCode m).toNat = n := by
  match n with
  | 0 | 1 | 2 => cases h; rfl
  | _ + 3 => cases h

theorem toolOfCode_isSome_iff (n : Nat) : (toolOfCode n).isSome = true ↔ n ≤ 2 := by
  match n with
  | 0 | 1 | 2 => simp [toolOfCode]
  | _ + 3 => simp [toolOfCode]

end Sys2Proof.Machine
end

