-- ==== Sys2Proof/Laws/PerInstr.lean ====
section
/-! SUPPORT. The family TableRow: the encoding of a well-formed instruction lies in a row of
spec/opcode_table.json that carries the instruction's mnemonic. -/

namespace Sys2Proof.Laws.TableRow

/-- A row of the opcode table with this instruction's mnemonic holds its byte. -/
def Statement (i : Instr) : Prop :=
  i.wellFormed = true → ∃ r ∈ opcodeRows, r.mnemonic = i.mnemonic ∧ r.holds (encode i) = true

theorem opcode_row_holds : ∀ (op : BitVec 2) (f : Field6),
    OpcodeRow.holds ⟨"", joinByte op 0, 0xC0⟩ (joinByte op f) = true := by
  decide

theorem dx (d : Coord) : Statement (.dx d) := fun _ =>
  ⟨⟨"DX", 0x00, 0xC0⟩, by decide, rfl, opcode_row_holds 0 _⟩

theorem dy (d : Coord) : Statement (.dy d) := fun _ =>
  ⟨⟨"DY", 0x40, 0xC0⟩, by decide, rfl, opcode_row_holds 1 _⟩

theorem data (f : Field6) : Statement (.data f) := fun _ =>
  ⟨⟨"DATA", 0xC0, 0xC0⟩, by decide, rfl, opcode_row_holds 3 _⟩

theorem toolNone : Statement .toolNone := by unfold Statement; decide

theorem toolLine : Statement .toolLine := by unfold Statement; decide

theorem toolBlock : Statement .toolBlock := by unfold Statement; decide

theorem toolColour : Statement .toolColour := by unfold Statement; decide

theorem toolTargetX : Statement .toolTargetX := by unfold Statement; decide

theorem toolTargetY : Statement .toolTargetY := by unfold Statement; decide

theorem toolShow : Statement .toolShow := by unfold Statement; decide

theorem toolPause : Statement .toolPause := by unfold Statement; decide

theorem toolNextframe : Statement .toolNextframe := by unfold Statement; decide

theorem reserved_row_exists : ∀ c : Field6, 9 ≤ c.toNat → ∃ r ∈ reservedRows, r.holds (joinByte 2 c) = true := by
  decide

theorem toolReserved (c : Field6) : Statement (.toolReserved c) := fun h => by
  obtain ⟨r, hr, hb⟩ := reserved_row_exists c (by simpa [Instr.wellFormed] using h)
  have hm : ∀ r ∈ reservedRows, r.mnemonic = "TOOL.reserved" := by decide
  exact ⟨r, List.mem_append_right _ hr, hm r hr, hb⟩

end Sys2Proof.Laws.TableRow
end

