-- ==== Sys2Proof/Tests/Slice0.lean ====
section
/-! SUPPORT. The model's own tests. Expected results are those of spec/95_test_vectors.md (its vector's name
stands beside each) or of the rule named. The last part shows, for every statement with hypotheses, a concrete
state and operands that meet them. -/

namespace Sys2Proof.Tests

open Sys2Proof.Machine

/-! ### Well-formedness: one ill-formed term for each check (R91) -/

theorem test_delta_31_wellFormed : (Instr.dx 31).wellFormed = true ∧ (Instr.dy (-32)).wellFormed = true := by
  decide

theorem test_dx_32_illFormed : (Instr.dx 32).wellFormed = false := by decide

theorem test_dx_minus33_illFormed : (Instr.dx (-33)).wellFormed = false := by decide

theorem test_dy_32_illFormed : (Instr.dy 32).wellFormed = false := by decide

theorem test_dy_minus33_illFormed : (Instr.dy (-33)).wellFormed = false := by decide

theorem test_reserved_8_illFormed :
    (Instr.toolReserved 8).wellFormed = false ∧ (Instr.toolReserved 9).wellFormed = true := by decide

/-! ### Decoding of words written out bit by bit (R71, R72, R74, R91; section 3 of the vectors) -/

theorem test_decode_dx : decodeByte 0b00111110 = .dx (-2) ∧ decodeByte 0b00011111 = .dx 31 := by decide

theorem test_decode_dy : decodeByte 0b01000011 = .dy 3 ∧ decodeByte 0b01100000 = .dy (-32) := by decide

theorem test_decode_toolNone : decodeByte 0b10000000 = .toolNone := by decide

theorem test_decode_toolLine : decodeByte 0b10000001 = .toolLine := by decide

theorem test_decode_toolBlock : decodeByte 0b10000010 = .toolBlock := by decide

theorem test_decode_toolColour : decodeByte 0b10000011 = .toolColour := by decide

theorem test_decode_toolTargetX : decodeByte 0b10000100 = .toolTargetX := by decide

theorem test_decode_toolTargetY : decodeByte 0b10000101 = .toolTargetY := by decide

theorem test_decode_toolShow : decodeByte 0b10000110 = .toolShow := by decide

theorem test_decode_toolPause : decodeByte 0b10000111 = .toolPause := by decide

theorem test_decode_toolNextframe : decodeByte 0b10001000 = .toolNextframe := by decide

theorem test_decode_data : decodeByte 0b11101011 = .data 43 ∧ decodeByte 0b11111111 = .data 63 := by decide

theorem test_decode_reserved :
    decodeByte 0b10001001 = .toolReserved 9 ∧ decodeByte 0b10111111 = .toolReserved 63 := by decide

theorem test_decode_no_byte : decode [] = .error .noByte := by decide

theorem test_decode_takes_one_byte : decode [0xC1, 0x03] = .ok (.data 1, [0x03]) := by decide

theorem test_tableWord : decodeTableWord 8 0x89 = some (.toolReserved 9) ∧ decodeTableWord 8 0x20 = some (.dx (-32)) := by
  decide

/-- The 17 rows of spec/opcode_table.json do not overlap. -/
theorem test_rows_disjoint : opcodeRows.Pairwise (fun r q => r.pattern &&& q.mask ≠ q.pattern &&& r.mask) := by
  decide

/-! ### One step each, from a running state -/

/-- A running invocation over `bytes`, at offset 0, with the tool given. -/
def running (bytes : List Byte) (m : ToolMode) : State :=
  { State.reset with stream := Memory.ofBytes 0 bytes, streamLen := bytes.length, phase := .running, launched := true, tool := m }

/-- The same, at an offset. -/
def runningAt (a : Offset) (bytes : List Byte) (m : ToolMode) : State := { running bytes m with start := a }

/-- An idle block with that stream. -/
def idle (bytes : List Byte) (m : ToolMode) : State := { running bytes m with phase := .idle }

/-- What a field is after a step; `d` where the step stops. -/
def after {α : Type} (d : α) (f : State → α) (o : Host.Outcome State Fault Refusal) : α :=
  match o with
  | .next s => f s
  | .fault _ => d
  | .refused _ => d

/-- X2. -/
theorem test_dx_X2 : after 0 (·.tx.toInt) (step (running [0x20] .none)) = -32 := by decide

/-- X3. -/
theorem test_dx_X3 :
    after 0 (·.tx.toInt) (step { running [0x01] .none with tx := 2147483647 }) = -2147483648 := by decide

/-- Y4. -/
theorem test_dy_Y4 :
    after [] (·.events) (step { running [0x7D] .block with x := 10, y := 10, tx := 5, ty := 10 })
      = [.drawBlock 10 10 (-5) (-3)] := by decide

/-- Y5. -/
theorem test_dy_Y5 :
    after [] (·.events) (step { running [0x40] .line with x := 2, y := 2, tx := 2, ty := 2 })
      = [.drawLine 2 2 2 2] := by decide

/-- T1. -/
theorem test_toolNone_T1 :
    after (.line, 1) (fun s => (s.tool, s.data)) (step { running [0x80] .block with data := 74 }) = (.none, 0) := by
  decide

/-- T2. -/
theorem test_toolLine_T2 :
    after (.none, 1) (fun s => (s.tool, s.data)) (step { running [0x81] .none with data := 3 }) = (.line, 0) := by
  decide

/-- T3. -/
theorem test_toolBlock_T3 : after .none (·.tool) (step (running [0x82] .line)) = .block := by decide

/-- T4. -/
theorem test_toolColour_T4 :
    after ([], 1) (fun s => (s.events, s.data)) (step { running [0x83] .none with data := 46844619 })
      = ([.setColour 46844619], 0) := by decide

/-- T7. -/
theorem test_toolTargetX_T7 :
    after (0, 1, 1) (fun s => (s.tx.toInt, s.data, s.x)) (step { running [0x84] .none with data := 0x80000000 })
      = (-2147483648, 0, 0) := by decide

/-- T8. -/
theorem test_toolTargetY_T8 :
    after 0 (·.ty.toInt) (step { running [0x85] .none with data := 0xFFFFFFFF }) = -1 := by decide

/-- T9. -/
theorem test_toolShow_T9 :
    after ([], 1) (fun s => (s.events, s.data)) (step { running [0x86] .none with data := 5 }) = ([.present], 0) := by
  decide

/-- T10. -/
theorem test_toolPause_T10 :
    after [] (·.events) (step { running [0x87] .none with data := 7 }) = [.pause 7] := by decide

/-- T12, with the byte at offset 3. -/
theorem test_toolNextframe_T12 :
    after (false, 0, 1, none) (fun s => (s.endFlag, s.start, s.data, s.reply))
        (step { runningAt 3 [0, 0, 0, 0x88] .none with data := 2 })
      = (true, 4, 0, some (.status .frame)) := by decide

/-- T13, with the byte at offset 2. -/
theorem test_toolReserved_T13 :
    after (false, 0, 0, 0, 0) (fun s => (s.fault, s.faultByte, s.faultAt, s.start, s.data))
        (step { runningAt 2 [0, 0, 0x89] .none with data := 66 })
      = (true, 0x89, 2, 2, 66) := by decide

/-- T14: the status of the invocation. -/
theorem test_toolReserved_T14 :
    after (0, none) (fun s => (s.faultCode, s.reply)) (step (running [0xBF] .none)) = (1, some (.status .fault)) := by
  decide

/-- A5. -/
theorem test_data_A5 : after 0 (·.data) (step { running [0xC1] .none with data := 0x3FFFFFF }) = 0xFFFFFFC1 := by
  decide

/-- A6. -/
theorem test_data_A6 : after 1 (·.data) (step { running [0xC0] .none with data := 0x04000000 }) = 0 := by decide

/-! ### The session (section 7 of the vectors) and the host -/

/-- S1. -/
theorem test_session_S1 :
    after (none, [.present]) (fun s => (s.reply, s.events)) (invoke (idle [] .line)) = (some (.status .exhausted), []) := by
  decide

/-- S2, its first Run. -/
theorem test_session_S2 :
    after (0, false, none) (fun s => (s.start, s.endFlag, s.reply)) (invoke (idle [0x88] .line))
      = (1, true, some (.status .frame)) := by decide

/-- S3. -/
theorem test_session_S3 :
    after (none, []) (fun s => (s.reply, s.events)) (invoke (idle [0x81, 0x01, 0x41] .none))
      = (some (.status .exhausted), [.drawLine 0 0 1 1]) := by decide

/-- S5: every later Run gives FAULT. -/
theorem test_session_S5 :
    (playback 2 (idle [0x89] .none)).1 = [(some (.status .fault), []), (some (.status .fault), [])] := by decide

/-- S7. -/
theorem test_session_S7 :
    after none (·.reply) (invoke { idle [0x00] .none with start := 5 }) = some (.status .exhausted) := by decide

/-- R32: a tuple with `tool = 3` is refused, and so is one with a coordinate of 2^31. -/
theorem test_continuation_refused :
    (match hostMove (.writeContinuation ⟨0, 0, 0, 0, 3, 0, 0, 0⟩) State.reset with
      | .refused r => decide (r = .continuationRefused) | _ => false) = true ∧
    (match hostMove (.writeContinuation ⟨2147483648, 0, 0, 0, 1, 0, 0, 0⟩) State.reset with
      | .refused r => decide (r = .continuationRefused) | _ => false) = true := by decide

/-- The word placed for the first step after reset is run by it. -/
theorem test_withFetchWord :
    after 0 (·.tx.toInt) (step (State.reset.withFetchWord 8 0x3E)) = -2 ∧
    after 0 (·.faultByte) (step (State.reset.withFetchWord 8 0xBF)) = 0xBF ∧
    after 0 (·.y.toInt) (step (State.reset.withFetchWord 8 0x5F)) = 31 := by decide

/-! ### The codec and the assembler -/

/-- 2.1 and 2.3 of the vectors: 200. -/
theorem test_codec_200 :
    (colourEncode 200).toList = [3, 8, 50, 12, 35] ∧ wideEncode 200 = [3, 8] ∧ widePorts 63 = ⟨1, 63, 0⟩ := by decide

/-- 2.2: bits outside the layout. -/
theorem test_unpack_outside : unpackA 63 0 = 192 ∧ unpackB 0 15 = 0 ∧ unpackC 48 3 = 0 := by decide

/-- R79, on the first lines of P1, with a comment and an empty line. -/
theorem test_assemble :
    assemble ['D', 'X', ' ', '-', '2', ' ', ';', 'c', '\n', '\n', 'T', 'O', 'O', 'L', ' ', 'S', 'H', 'O', 'W']
      = .ok [0x3E, 0x86] := by decide

theorem test_assemble_out_of_range :
    assembleLine ['D', 'X', ' ', '3', '2'] = .error .outOfRange ∧
    assembleLine ['.', 'b', 'y', 't', 'e', ' ', '0', 'x', '1', '0', '0'] = .error .outOfRange := by decide

/-- P4's reserved byte, and the radix of R9's numerals; DX takes a decimal integer alone (R79). -/
theorem test_assemble_radix :
    assembleLine ['.', 'b', 'y', 't', 'e', ' ', '0', 'x', '8', '9'] = .ok [0x89] ∧
    assembleLine ['D', 'A', 'T', 'A', ' ', '0', 'b', '1', '1'] = .ok [0xC3] ∧
    assembleLine ['D', 'X', ' ', '0', 'x', '1'] = .error .notANumber := by decide

/-- P2's line `MOVETO 10, 0`, with the spacing it has, with none, and without its comma. -/
theorem test_assemble_pseudo :
    assembleLine ['M', 'O', 'V', 'E', 'T', 'O', ' ', '1', '0', ',', ' ', '0']
      = .ok [0xCA, 0x84, 0xC0, 0x85, 0x80, 0x40] ∧
    assembleLine ['M', 'O', 'V', 'E', 'T', 'O', ' ', '1', '0', ',', '0']
      = .ok [0xCA, 0x84, 0xC0, 0x85, 0x80, 0x40] ∧
    assembleLine ['M', 'O', 'V', 'E', 'T', 'O', ' ', '1', '0', ' ', '0'] = .error .unknownForm ∧
    assembleLine ['L', 'I', 'T', ' ', '2', '5', '6'] = .error .outOfRange := by decide

/-- R80: S4's fill. -/
theorem test_fillTo :
    (Pseudo.fillTo 200 1).expand.map encode = [0xC3, 0xC8, 0x84, 0xC1, 0x85, 0x82, 0x40] := by decide

/-! ### Witnesses: every statement's hypotheses are met by a concrete state -/

theorem inv_of_parts (s : State) (h : Memory.wf s.stream ∧ (∀ c ∈ s.stream, c.1 < s.streamLen) ∧
    s.streamLen ≤ Config.maxStreamLen ∧ s.fault = false ∧ s.faultCode = 0 ∧ s.faultByte = 0 ∧ s.faultAt = 0 ∧
    s.endFlag = false ∧ s.launched = true ∧ s.reply = none) : MachineInv s where
  streamWf := h.1
  streamBelow := h.2.1
  lenBound := h.2.2.1
  faultClear _ := ⟨h.2.2.2.2.1, h.2.2.2.2.2.1, h.2.2.2.2.2.2.1⟩
  faultSet hf := by rw [h.2.2.2.1] at hf; cases hf
  running _ := ⟨h.2.2.2.2.2.2.2.1, h.2.2.2.2.2.2.2.2.1, h.2.2.2.2.2.2.2.2.2⟩

/-- An idle block that has faulted at offset 0 of the stream 0x89. -/
def faulted : State :=
  { idle [0x89] .none with fault := true, faultCode := 1, faultByte := 0x89, faultAt := 0 }

theorem inv_faulted : MachineInv faulted :=
  ⟨by decide, by decide, by decide, by decide, by decide, by decide⟩

theorem witness_wellFormed : (Instr.dx (-32)).wellFormed = true ∧ (Instr.toolReserved 9).wellFormed = true := by
  decide

theorem witness_step_goes_on : ∃ t, (running [0x86] .none).phase = .running ∧ (running [0x86] .none).fault = false ∧
    memRead (running [0x86] .none) 0 = .ok 0x86 ∧ exec (decodeByte 0x86) (running [0x86] .none) = .next t ∧
    t.fault = false ∧ t.endFlag = false := ⟨_, rfl, rfl, rfl, rfl, rfl, rfl⟩

theorem witness_step_frame : ∃ t, (running [0x88] .none).phase = .running ∧ (running [0x88] .none).fault = false ∧
    memRead (running [0x88] .none) 0 = .ok 0x88 ∧ exec (decodeByte 0x88) (running [0x88] .none) = .next t ∧
    t.fault = false ∧ t.endFlag = true := ⟨_, rfl, rfl, rfl, rfl, rfl, rfl⟩

theorem witness_step_fault : ∃ t, (running [0xBF] .none).phase = .running ∧ (running [0xBF] .none).fault = false ∧
    memRead (running [0xBF] .none) 0 = .ok 0xBF ∧ exec (decodeByte 0xBF) (running [0xBF] .none) = .next t ∧
    t.fault = true := ⟨_, rfl, rfl, rfl, rfl, rfl⟩

theorem witness_dx_edges : ∃ s t : State, s.tx.toInt = 2147483647 ∧ exec (.dx 1) s = .next t :=
  ⟨{ running [] .none with tx := 2147483647 }, _, by decide, rfl⟩

theorem witness_dx_example : ∃ s t : State, s.tx = 0 ∧ exec (decodeByte 0x3E) s = .next t :=
  ⟨running [] .none, _, rfl, rfl⟩

theorem witness_dy_edges : ∃ s t : State, s.ty.toInt = -2147483648 ∧ exec (.dy (-1)) s = .next t :=
  ⟨{ running [] .none with ty := 0x80000000 }, _, by decide, rfl⟩

theorem witness_dy_tools : ∃ a b c : State, a.tool = .none ∧ b.tool = .line ∧ c.tool = .block :=
  ⟨running [] .none, running [] .line, running [] .block, rfl, rfl, rfl⟩

theorem witness_dy_example : ∃ s t : State, s.x = 0 ∧ s.y = 0 ∧ s.tx = 5 ∧ s.ty = 0 ∧ s.tool = .line ∧
    exec (decodeByte 0x43) s = .next t :=
  ⟨{ running [] .line with tx := 5 }, _, rfl, rfl, rfl, rfl, rfl, rfl⟩

theorem witness_block_example : ∃ s : State, s.x = 10 ∧ s.y = 0 ∧ s.tx = 74 ∧ s.ty = 1 :=
  ⟨{ running [] .none with x := 10, tx := 74, ty := 1 }, rfl, rfl, rfl, rfl⟩

/-- RESET_TOOL is one of the three hypotheses of the first DY. -/
theorem witness_reset_tool :
    Config.resetTool = .none ∨ Config.resetTool = .line ∨ Config.resetTool = .block := by
  cases Config.resetTool <;> simp

theorem witness_data_cleared : ∃ s : State, s.data = 0 := ⟨running [] .none, rfl⟩

theorem witness_data_all_ones : ∃ s t u : State, s.data = 0xFFFFFFFF ∧ exec .toolTargetX s = .next t ∧
    exec .toolTargetY s = .next u := ⟨{ running [] .none with data := 0xFFFFFFFF }, _, _, rfl, rfl, rfl⟩

theorem witness_target_zero : ∃ s t u : State, s.data = 0 ∧ exec .toolTargetX s = .next t ∧
    exec .toolTargetY s = .next u := ⟨running [] .none, _, _, rfl, rfl, rfl⟩

theorem witness_target_after_dx : ∃ (d : Coord) (s t u : State), execAll [.dx d, .toolTargetX] s = .next t ∧
    exec .toolTargetX s = .next u := ⟨5, running [] .none, _, _, rfl, rfl⟩

theorem witness_data_5 : ∃ s t : State, s.data = 5 ∧ exec (.data 0) s = .next t :=
  ⟨{ running [] .none with data := 5 }, _, rfl, rfl⟩

theorem witness_aboutTo_show : ∃ t, MachineInv (running [0x86] .none) ∧ AboutTo .toolShow (running [0x86] .none) ∧
    step (running [0x86] .none) = .next t :=
  ⟨_, inv_of_parts _ (by decide), ⟨rfl, rfl, by decide, rfl⟩, rfl⟩

theorem witness_aboutTo_pause : ∃ t, MachineInv (running [0x87] .none) ∧ AboutTo .toolPause (running [0x87] .none) ∧
    step (running [0x87] .none) = .next t :=
  ⟨_, inv_of_parts _ (by decide), ⟨rfl, rfl, by decide, rfl⟩, rfl⟩

/-- A NEXTFRAME at the last offset of its stream. -/
theorem witness_nextframe_last : MachineInv (running [0x88] .none) ∧
    AboutTo .toolNextframe (running [0x88] .none) ∧
    (running [0x88] .none).start.toNat + 1 = (running [0x88] .none).streamLen :=
  ⟨inv_of_parts _ (by decide), ⟨rfl, rfl, by decide, rfl⟩, rfl⟩

/-- A NEXTFRAME before another (S6). -/
theorem witness_nextframe_twice : MachineInv (running [0x88, 0x88] .none) ∧
    AboutTo .toolNextframe (running [0x88, 0x88] .none) ∧
    (running [0x88, 0x88] .none).start.toNat + 1 < (running [0x88, 0x88] .none).streamLen ∧
    instrAt (running [0x88, 0x88] .none) 1 = .toolNextframe :=
  ⟨inv_of_parts _ (by decide), ⟨rfl, rfl, by decide, rfl⟩, by decide, by decide⟩

theorem witness_reserved_low : 9 ≤ (9 : Field6).toNat ∧ AboutTo (.toolReserved 9) (running [0x89] .none) :=
  ⟨by decide, ⟨rfl, rfl, by decide, rfl⟩⟩

theorem witness_reserved_high : 9 ≤ (63 : Field6).toNat ∧ AboutTo (.toolReserved 63) (running [0xBF] .none) :=
  ⟨by decide, ⟨rfl, rfl, by decide, rfl⟩⟩

theorem witness_reserved_at_12 : ∃ s t : State, s.start = 12 ∧ exec (decodeByte 0x89) s = .next t :=
  ⟨runningAt 12 [] .none, _, rfl, rfl⟩

theorem witness_chain : ∀ i ∈ [Instr.data 1, .dx 3, .dy 0, .data 2], isDefinedTool i = false ∧ isReserved i = false := by
  decide

theorem witness_chain_lengths : ([63, 63, 63, 63, 63] : List Field6).length ≤ 5 ∧
    ([1, 2, 3, 4, 5] : List Field6).length = 5 := by decide

theorem witness_exec_next : ∃ t, exec .toolShow (running [0x86] .none) = .next t := ⟨_, rfl⟩

theorem witness_same_inputs : ∃ s s' t t' : State, s ≠ s' ∧ s.x = s'.x ∧ s.y = s'.y ∧ s.tx = s'.tx ∧ s.ty = s'.ty ∧
    s.tool = s'.tool ∧ s.data = s'.data ∧ s.start = s'.start ∧ exec .toolShow s = .next t ∧
    exec .toolShow s' = .next t' :=
  ⟨running [0x86] .none, idle [0x86] .none, _, _, fun h => (by cases (congrArg State.phase h)), rfl, rfl, rfl, rfl, rfl,
    rfl, rfl, rfl, rfl⟩

theorem witness_other_stream : ∃ (t : State) (m : Memory), m ≠ (running [0x05, 0x06] .none).stream ∧
    Memory.read m 0 = Memory.read (running [0x05, 0x06] .none).stream 0 ∧
    (running [0x05, 0x06] .none).start.toNat = 0 ∧ (running [0x05, 0x06] .none).phase = .running ∧
    step (running [0x05, 0x06] .none) = .next t :=
  ⟨_, [(0, 0x05)], by decide, by decide, by decide, rfl, rfl⟩

/-- Two states that differ in `end`, `fault` and `fault_code`, before a NEXTFRAME and before a reserved TOOL. -/
theorem witness_same_inputs_status : ∃ s s' t t' u u' : State, s.endFlag ≠ s'.endFlag ∧ s.fault ≠ s'.fault ∧
    s.faultCode ≠ s'.faultCode ∧ s.x = s'.x ∧ s.y = s'.y ∧ s.tx = s'.tx ∧ s.ty = s'.ty ∧ s.tool = s'.tool ∧
    s.data = s'.data ∧ s.start = s'.start ∧ exec .toolNextframe s = .next t ∧ exec .toolNextframe s' = .next t' ∧
    exec (.toolReserved 9) s = .next u ∧ exec (.toolReserved 9) s' = .next u' :=
  ⟨running [] .none, { running [] .none with endFlag := true, fault := true, faultCode := 1 }, _, _, _, _,
    by decide, by decide, by decide, rfl, rfl, rfl, rfl, rfl, rfl, rfl, rfl, rfl, rfl, rfl⟩

theorem witness_no_event : ∃ t, (running [0x05] .none).phase = .running ∧ step (running [0x05] .none) = .next t ∧
    AboutTo (.dx 5) (running [0x05] .none) := ⟨_, rfl, rfl, ⟨rfl, rfl, by decide, rfl⟩⟩

theorem witness_refused : ∃ s : State, step s = .refused .streamRewritten :=
  ⟨{ idle [] .none with hostMoves := [.load []] }, rfl⟩

theorem witness_start_moves : ∃ t, MachineInv (running [0x05] .none) ∧ step (running [0x05] .none) = .next t ∧
    (∃ i, AboutTo i (running [0x05] .none) ∧ isReserved i = false) ∧ t.start ≠ (running [0x05] .none).start :=
  ⟨_, inv_of_parts _ (by decide), rfl, ⟨_, ⟨rfl, rfl, by decide, rfl⟩, rfl⟩, by decide⟩

theorem witness_cursor_moves : ∃ t, step (running [0x43] .none) = .next t ∧ t.y ≠ (running [0x43] .none).y :=
  ⟨_, rfl, by decide⟩

theorem witness_tool_changes : ∃ t, step (running [0x81] .none) = .next t ∧ t.tool ≠ (running [0x81] .none).tool :=
  ⟨_, rfl, by decide⟩

theorem witness_end_changes : ∃ t, step (running [0x88] .none) = .next t ∧
    t.endFlag ≠ (running [0x88] .none).endFlag := ⟨_, rfl, by decide⟩

theorem witness_launched : ∃ t, (running [0x05] .none).launched = true ∧ step (running [0x05] .none) = .next t :=
  ⟨_, rfl, rfl⟩

theorem witness_faulted_waits : ∃ t, MachineInv faulted ∧ faulted.fault = true ∧ faulted.phase = .idle ∧
    step faulted = .next t := ⟨_, inv_faulted, rfl, rfl, rfl⟩

theorem witness_faulted_reset : ∃ t, MachineInv { faulted with hostMoves := [.reset] } ∧
    step { faulted with hostMoves := [.reset] } = .next t ∧ t.fault = false :=
  ⟨_, ⟨by decide, by decide, by decide, by decide, by decide, by decide⟩, rfl, rfl⟩

theorem witness_idle_wakes : ∃ t, (idle [] .none).phase = .idle ∧ (idle [] .none).hostMoves = [] ∧
    step { idle [] .none with hostMoves := [.run] } = .next t ∧ t.phase = .running := ⟨_, rfl, rfl, rfl, rfl⟩

theorem witness_load : State.reset.launched = false ∧ ([0x00, 0x88] : List Byte).length ≤ 4294967295 ∧
    1 < ([0x00, 0x88] : List Byte).length := by decide

/-- A list one byte too long to load exists. -/
theorem witness_load_too_long : 4294967295 < (List.replicate 4294967296 (0 : Byte)).length := by
  rw [List.length_replicate]; decide

theorem witness_continuation_fits : (∀ v ∈ [(-2147483648 : Int), 2147483647, 0, -1], -2147483648 ≤ v ∧ v ≤ 2147483647) ∧
    2 ≤ 2 ∧ 4294967295 < 4294967296 ∧ 1 ≤ 1 ∧ ¬ 3 ≤ 2 := by decide

theorem witness_ready_at_end : Ready (idle [] .none) ∧ (idle [] .none).streamLen ≤ (idle [] .none).start.toNat :=
  ⟨⟨rfl, rfl⟩, by decide⟩

theorem witness_boot : ∃ s : State, s.phase = .idle ∧ s.launched = false ∧
    s.hostMoves = [.load [0x88], .reset, .run] :=
  ⟨{ State.reset with hostMoves := [.load [0x88], .reset, .run] }, rfl, rfl, rfl⟩

theorem witness_run : (idle [0x88] .none).fault = false ∧ faulted.fault = true := ⟨rfl, rfl⟩

theorem witness_running_at_end : MachineInv (running [] .line) ∧ (running [] .line).phase = .running ∧
    (running [] .line).fault = false ∧ (running [] .line).streamLen ≤ (running [] .line).start.toNat :=
  ⟨inv_of_parts _ (by decide), rfl, rfl, by decide⟩

theorem witness_frame : ∃ t, MachineInv (running [0x88] .none) ∧ step (running [0x88] .none) = .next t ∧
    t.endFlag = true := ⟨_, inv_of_parts _ (by decide), rfl, rfl⟩

theorem witness_resume : MachineInv (idle [0x05, 0x88] .none) ∧ Ready (idle [0x05, 0x88] .none) ∧
    (idle [0x05, 0x88] .none).start.toNat < (idle [0x05, 0x88] .none).streamLen :=
  ⟨inv_of_parts _ (by decide), ⟨rfl, rfl⟩, by decide⟩

theorem witness_resume_step : ∃ t u, hostMove .run (idle [0x05, 0x88] .none) = .next t ∧
    runInvocation 1 t = .next u ∧ u.phase = .running := ⟨_, _, rfl, rfl, rfl⟩

theorem witness_run_to_the_end : MachineInv (idle [0x05] .none) ∧ Ready (idle [0x05] .none) ∧
    ∀ a, (idle [0x05] .none).start.toNat ≤ a → a < (idle [0x05] .none).streamLen →
      instrAt (idle [0x05] .none) a ≠ .toolNextframe ∧ isReserved (instrAt (idle [0x05] .none) a) = false :=
  ⟨inv_of_parts _ (by decide), ⟨rfl, rfl⟩, fun a _ h => by
    have h0 : a = 0 := Nat.lt_one_iff.1 h
    subst h0
    decide⟩

/-- S6's stream from the initial record: two frame boundaries, no reserved byte. -/
theorem witness_playback : MachineInv (idle [0x88, 0x88] Config.resetTool) ∧ Initial (idle [0x88, 0x88] Config.resetTool) ∧
    (∀ a, a < (idle [0x88, 0x88] Config.resetTool).streamLen →
      isReserved (instrAt (idle [0x88, 0x88] Config.resetTool) a) = false) ∧
    countNextframes (idle [0x88, 0x88] Config.resetTool) 2 = 2 :=
  ⟨inv_of_parts _ (by decide), ⟨rfl, rfl, rfl, rfl, rfl, rfl, rfl, rfl, rfl, rfl, rfl, rfl, rfl⟩,
    fun a h => by
      have h2 : a < 2 := h
      interval_cases a <;> decide,
    by decide⟩

theorem witness_unused_bits : ∃ f g : ColourFields, f ≠ g ∧ f.f0.toNat % 4 = g.f0.toNat % 4 ∧ f.f1 = g.f1 ∧
    f.f2 = g.f2 ∧ f.f3 = g.f3 ∧ f.f4.toNat / 4 = g.f4.toNat / 4 :=
  ⟨⟨2, 50, 44, 43, 11⟩, ⟨62, 50, 44, 43, 8⟩, by decide⟩

theorem witness_wide_edges : (63 : Byte).toNat < 64 ∧ 64 ≤ (64 : Byte).toNat := by decide

theorem witness_operand_out_of_range : readInt ['3', '2'] = some 32 ∧ readInt ['-', '3', '3'] = some (-33) ∧
    readNumeral ['-', '1'] = some (-1) ∧ readNumeral ['6', '4'] = some 64 ∧
    readNumeral ['0', 'x', '1', '0', '0'] = some 256 := by decide

theorem witness_operand_in_range : readInt ['-', '3', '2'] = some (-32) ∧ readInt ['3', '1'] = some 31 ∧
    readNumeral ['0'] = some 0 ∧ readNumeral ['6', '3'] = some 63 ∧
    readNumeral ['0', 'x', 'F', 'f'] = some 255 := by decide

theorem witness_running_with_moves : ∃ t, (running [0x05] .none).phase = .running ∧
    step (running [0x05] .none) = .next t ∧ (running [0x05] .none).hostMoves ≠ [.reset] := ⟨_, rfl, rfl, by decide⟩

end Sys2Proof.Tests
end

section
/-! PROOFS. The state (spec/10_state.md): the machine's invariant, what no instruction reads, who writes the
cursor, `tool` and `end`, the continuation, and the first DY after reset. -/

namespace Sys2Proof.Machine

/-! ### The bytes that decode to the reserved class (R75, R91) -/

theorem encode_decodeByte : ∀ b : Byte, encode (decodeByte b) = b := by decide

theorem byte_range_of_isReserved :
    ∀ b : Byte, isReserved (decodeByte b) = true → 137 ≤ b.toNat ∧ b.toNat ≤ 191 := by decide

/-- A byte of the reserved class carries its sub-opcode, and lies in 137..191. -/
theorem byte_of_decodeByte_eq_toolReserved {b : Byte} {c : Field6} (h : decodeByte b = .toolReserved c) :
    joinByte 2 c = b ∧ 137 ≤ b.toNat ∧ b.toNat ≤ 191 := by
  refine ⟨?_, byte_range_of_isReserved b (by rw [h]; rfl)⟩
  have hb := encode_decodeByte b
  rwa [h] at hb

theorem eq_toolReserved_of_isReserved {i : Instr} (h : isReserved i = true) : ∃ c, i = .toolReserved c := by
  cases i with
  | toolReserved c => exact ⟨c, rfl⟩
  | _ => cases h

/-! ### What an instruction leaves unchanged (R95), and the events it appends (R187) -/

/-- Only the reserved class writes the fault fields. -/
theorem effectOf_faultFields {i : Instr} (h : isReserved i = false) (s : State) :
    (effectOf i s).fault = s.fault ∧ (effectOf i s).faultCode = s.faultCode ∧
      (effectOf i s).faultByte = s.faultByte ∧ (effectOf i s).faultAt = s.faultAt := by
  cases i with
  | toolReserved c => cases h
  | _ => exact ⟨rfl, rfl, rfl, rfl⟩

section
variable (i : Instr) (s : State)

@[simp] theorem effectOf_stream : (effectOf i s).stream = s.stream := by cases i <;> rfl
@[simp] theorem effectOf_streamLen : (effectOf i s).streamLen = s.streamLen := by cases i <;> rfl
@[simp] theorem effectOf_phase : (effectOf i s).phase = s.phase := by cases i <;> rfl
@[simp] theorem effectOf_reply : (effectOf i s).reply = s.reply := by cases i <;> rfl
@[simp] theorem effectOf_launched : (effectOf i s).launched = s.launched := by cases i <;> rfl
@[simp] theorem effectOf_hostMoves : (effectOf i s).hostMoves = s.hostMoves := by cases i <;> rfl

/-- Only DY writes the cursor. -/
theorem effectOf_cursor :
    (∃ d, i = .dy d) ∨ ((effectOf i s).x = s.x ∧ (effectOf i s).y = s.y) := by
  cases i with
  | dy d => exact .inl ⟨d, rfl⟩
  | _ => exact .inr ⟨rfl, rfl⟩

/-- Only TOOL NONE, LINE and BLOCK write the tool mode, each its own. -/
theorem effectOf_tool :
    (i = .toolNone ∧ (effectOf i s).tool = .none) ∨ (i = .toolLine ∧ (effectOf i s).tool = .line) ∨
      (i = .toolBlock ∧ (effectOf i s).tool = .block) ∨ (effectOf i s).tool = s.tool := by
  cases i with
  | toolNone => exact .inl ⟨rfl, rfl⟩
  | toolLine => exact .inr (.inl ⟨rfl, rfl⟩)
  | toolBlock => exact .inr (.inr (.inl ⟨rfl, rfl⟩))
  | _ => exact .inr (.inr (.inr rfl))

/-- Only NEXTFRAME writes `end`, and sets it. -/
theorem effectOf_endFlag :
    (i = .toolNextframe ∧ (effectOf i s).endFlag = true) ∨ (effectOf i s).endFlag = s.endFlag := by
  cases i with
  | toolNextframe => exact .inl ⟨rfl, rfl⟩
  | _ => exact .inr rfl

end

/-- The display commands of an instruction (R95's column "event"). -/
def eventsOf (i : Instr) (s : State) : List Event :=
  match i with
  | .dy d => drawEvents (setTy (s.ty + d) s)
  | .toolColour => [.setColour s.data]
  | .toolShow => [.present]
  | .toolPause => [.pause s.data]
  | .dx _ | .toolNone | .toolLine | .toolBlock | .toolTargetX | .toolTargetY | .toolNextframe | .data _
  | .toolReserved _ => []

theorem effectOf_events (i : Instr) (s : State) : (effectOf i s).events = s.events ++ eventsOf i s := by
  cases i <;> simp [effectOf, eventsOf]

/-! ### The tests after an instruction (R180) write `phase` and `reply` alone -/

section
variable (s : State)

theorem settle_frame : settle s = { s with phase := (settle s).phase, reply := (settle s).reply } := by
  obtain ⟨_, h⟩ | ⟨_, _, h⟩ | ⟨_, _, h⟩ := settle_cases s <;> rw [h] <;> rfl

@[simp] theorem settle_x : (settle s).x = s.x := (congrArg State.x (settle_frame s) :)
@[simp] theorem settle_y : (settle s).y = s.y := (congrArg State.y (settle_frame s) :)
@[simp] theorem settle_tx : (settle s).tx = s.tx := (congrArg State.tx (settle_frame s) :)
@[simp] theorem settle_ty : (settle s).ty = s.ty := (congrArg State.ty (settle_frame s) :)
@[simp] theorem settle_tool : (settle s).tool = s.tool := (congrArg State.tool (settle_frame s) :)
@[simp] theorem settle_data : (settle s).data = s.data := (congrArg State.data (settle_frame s) :)
@[simp] theorem settle_start : (settle s).start = s.start := (congrArg State.start (settle_frame s) :)
@[simp] theorem settle_endFlag : (settle s).endFlag = s.endFlag := (congrArg State.endFlag (settle_frame s) :)
@[simp] theorem settle_fault : (settle s).fault = s.fault := (congrArg State.fault (settle_frame s) :)
@[simp] theorem settle_faultCode : (settle s).faultCode = s.faultCode := (congrArg State.faultCode (settle_frame s) :)
@[simp] theorem settle_faultByte : (settle s).faultByte = s.faultByte := (congrArg State.faultByte (settle_frame s) :)
@[simp] theorem settle_faultAt : (settle s).faultAt = s.faultAt := (congrArg State.faultAt (settle_frame s) :)
@[simp] theorem settle_stream : (settle s).stream = s.stream := (congrArg State.stream (settle_frame s) :)
@[simp] theorem settle_streamLen : (settle s).streamLen = s.streamLen := (congrArg State.streamLen (settle_frame s) :)
@[simp] theorem settle_events : (settle s).events = s.events := (congrArg State.events (settle_frame s) :)
@[simp] theorem settle_launched : (settle s).launched = s.launched := (congrArg State.launched (settle_frame s) :)
@[simp] theorem settle_hostMoves : (settle s).hostMoves = s.hostMoves := (congrArg State.hostMoves (settle_frame s) :)

end

/-! ### What a step that answers a next state did -/

theorem aboutTo_of_not_atEnd {s : State} (hp : s.phase = .running) (hf : s.fault = false)
    (he : atEnd s = false) : AboutTo (instrAt s s.start.toNat) s :=
  ⟨hp, hf, by simpa [atEnd] using he, rfl⟩

/-- The causes of a next state: waiting, a move of the host, the return of a faulted block, exhaustion, or the
instruction at `start` with the tests after it. -/
theorem step_next_cases {s t : State} (h : step s = .next t) :
    (s.phase = .idle ∧ t = s) ∨
    (s.phase = .idle ∧ ∃ m ms, s.hostMoves = m :: ms ∧ hostMove m (setMoves ms s) = .next t) ∨
    (s.phase = .running ∧ s.fault = true ∧ t = returnWith .fault s) ∨
    (s.phase = .running ∧ s.fault = false ∧ s.streamLen ≤ s.start.toNat ∧ t = exhaust s) ∨
    (∃ i, AboutTo i s ∧ t = settle (effectOf i s)) := by
  obtain ⟨hp, -, hs⟩ | ⟨hp, m, ms, hm, hs⟩ | ⟨hp, hf, hs⟩ | ⟨hp, hf, he, hs⟩ | ⟨hp, hf, he, hs⟩ := step_cases s <;>
    rw [hs] at h
  · exact .inl ⟨hp, (Host.Outcome.next.inj h).symm⟩
  · exact .inr (.inl ⟨hp, m, ms, hm, h⟩)
  · exact .inr (.inr (.inl ⟨hp, hf, (Host.Outcome.next.inj h).symm⟩))
  · exact .inr (.inr (.inr (.inl ⟨hp, hf, (atEnd_iff s).1 he, (Host.Outcome.next.inj h).symm⟩)))
  · exact .inr (.inr (.inr (.inr ⟨_, aboutTo_of_not_atEnd hp hf he, (Host.Outcome.next.inj h).symm⟩)))

/-! ### The invariant -/

/-- `t` has the stream and the fault fields of `s`, and is launched if `s` is: what `MachineInv` says of an
idle block rests on these fields alone. -/
structure KeepsStreamAndFault (s t : State) : Prop where
  stream : t.stream = s.stream
  streamLen : t.streamLen = s.streamLen
  fault : t.fault = s.fault
  faultCode : t.faultCode = s.faultCode
  faultByte : t.faultByte = s.faultByte
  faultAt : t.faultAt = s.faultAt
  launched : s.launched = true → t.launched = true

/-- The invariant carries over to a state with the same stream and fault fields, once a faulted block is idle
and a running one has no `end` and no reply. -/
theorem MachineInv.of_keeps {s t : State} (h : MachineInv s) (k : KeepsStreamAndFault s t)
    (hidle : s.fault = true → t.phase = .idle)
    (hrun : t.phase = .running → t.endFlag = false ∧ t.launched = true ∧ t.reply = none) : MachineInv t where
  streamWf := k.stream ▸ h.streamWf
  streamBelow := by rw [k.stream, k.streamLen]; exact h.streamBelow
  lenBound := k.streamLen ▸ h.lenBound
  faultClear := by rw [k.fault, k.faultCode, k.faultByte, k.faultAt]; exact h.faultClear
  faultSet := by
    rw [k.fault, k.faultCode, k.faultByte, k.faultAt, k.stream, k.streamLen]
    intro hf
    obtain ⟨-, hl, record⟩ := h.faultSet hf
    exact ⟨hidle hf, k.launched hl, record⟩
  running := hrun

/-- An idle state with the same stream and fault fields meets the invariant. -/
theorem MachineInv.of_keeps_idle {s t : State} (h : MachineInv s) (k : KeepsStreamAndFault s t)
    (hp : t.phase = .idle) : MachineInv t :=
  h.of_keeps k (fun _ => hp) (fun hr => by rw [hp] at hr; cases hr)

theorem setMoves_keeps_inv {s : State} (ms : List HostMove) (h : MachineInv s) : MachineInv (setMoves ms s) :=
  h.of_keeps ⟨rfl, rfl, rfl, rfl, rfl, rfl, id⟩ (fun hf => (h.faultSet hf).1) h.running

/-- A load comes before the first invocation, so no fault names a byte of the old stream. -/
theorem load_keeps_inv {s : State} {bs : List Byte} (h : MachineInv s) (hp : s.phase = .idle)
    (hl : s.launched = false) (hlen : bs.length ≤ Config.maxStreamLen) :
    MachineInv (answer none (setStream bs s)) where
  streamWf := memory_ofBytes_wf bs 0
  streamBelow c hc := by simpa using (mem_ofBytes_range hc).2
  lenBound := hlen
  faultClear := h.faultClear
  faultSet hf := by
    obtain ⟨-, hl', -⟩ := h.faultSet hf
    rw [hl] at hl'
    cases hl'
  running hr := by
    have : s.phase = .running := hr
    rw [hp] at this
    cases this

theorem hostReset_keeps_inv {s : State} (h : MachineInv s) : MachineInv (hostReset s) where
  streamWf := h.streamWf
  streamBelow := h.streamBelow
  lenBound := h.lenBound
  faultClear _ := ⟨rfl, rfl, rfl⟩
  faultSet hf := by cases hf
  running hr := by cases hr

theorem hostMove_keeps_inv {m : HostMove} {s t : State} (h : MachineInv s) (hp : s.phase = .idle)
    (hm : hostMove m s = .next t) : MachineInv t := by
  obtain ⟨bs, -, hl, hlen, rfl⟩ | ⟨-, rfl⟩ | ⟨-, -, rfl⟩ | ⟨-, hf, rfl⟩ | ⟨c, k, -, -, -, rfl⟩ | ⟨-, r, rfl⟩ :=
    hostMove_cases hm
  case inl => exact load_keeps_inv h hp hl hlen
  case inr.inl => exact hostReset_keeps_inv h
  case inr.inr.inr.inl =>
    exact h.of_keeps ⟨rfl, rfl, rfl, rfl, rfl, rfl, fun _ => rfl⟩ (by simp [hf]) (fun _ => ⟨rfl, rfl, rfl⟩)
  all_goals exact h.of_keeps_idle ⟨rfl, rfl, rfl, rfl, rfl, rfl, id⟩ hp

/-- The fault that a reserved TOOL records names the byte the block has just fetched. -/
theorem reserved_keeps_inv {c : Field6} {s : State} (h : MachineInv s) (ha : AboutTo (.toolReserved c) s) :
    MachineInv (settle (effectOf (.toolReserved c) s)) := by
  obtain ⟨hp, -, hlt, hi⟩ := ha
  obtain ⟨hb, hlo, hhi⟩ := byte_of_decodeByte_eq_toolReserved hi
  obtain ⟨-, hl, -⟩ := h.running hp
  rw [← hb] at hlo hhi
  exact {
    streamWf := h.streamWf
    streamBelow := h.streamBelow
    lenBound := h.lenBound
    faultClear := fun hf => by cases hf
    faultSet := fun _ => ⟨rfl, hl, rfl, hlo, hhi, hlt, hb.symm⟩
    running := fun hr => by cases hr }

/-- An instruction that is not reserved leaves the fault fields clear, and a NEXTFRAME ends the invocation. -/
theorem unreserved_keeps_inv {i : Instr} {s : State} (h : MachineInv s) (ha : AboutTo i s)
    (hi : isReserved i = false) : MachineInv (settle (effectOf i s)) := by
  obtain ⟨hp, hf, -, -⟩ := ha
  obtain ⟨-, hl, hr⟩ := h.running hp
  obtain ⟨ef, ec, eb, ea⟩ := effectOf_faultFields hi s
  refine h.of_keeps ⟨by simp, by simp, by simp [ef], by simp [ec], by simp [eb], by simp [ea], by simp⟩
    (by simp [hf]) fun hrun => ?_
  obtain ⟨-, hs⟩ | ⟨-, -, hs⟩ | ⟨-, he, hs⟩ := settle_cases (effectOf i s) <;> rw [hs] at hrun ⊢
  · cases hrun
  · cases hrun
  · exact ⟨he, by simpa using hl, by simpa using hr⟩

theorem instruction_keeps_inv {i : Instr} {s : State} (h : MachineInv s) (ha : AboutTo i s) :
    MachineInv (settle (effectOf i s)) := by
  cases hi : isReserved i with
  | false => exact unreserved_keeps_inv h ha hi
  | true =>
    obtain ⟨c, rfl⟩ := eq_toolReserved_of_isReserved hi
    exact reserved_keeps_inv h ha

/-- Settles O26, by the causes of a next state. -/
theorem stepKeepsTheInvariant : Obligations.StepKeepsTheInvariant := by
  intro s t h hstep
  obtain ⟨-, rfl⟩ | ⟨hp, m, ms, -, hm⟩ | ⟨-, -, rfl⟩ | ⟨-, -, -, rfl⟩ | ⟨i, ha, rfl⟩ := step_next_cases hstep
  · exact h
  · exact hostMove_keeps_inv (setMoves_keeps_inv ms h) hp hm
  · exact h.of_keeps_idle ⟨rfl, rfl, rfl, rfl, rfl, rfl, id⟩ rfl
  · exact h.of_keeps_idle ⟨rfl, rfl, rfl, rfl, rfl, rfl, id⟩ rfl
  · exact instruction_keeps_inv h ha

/-- Settles O27: the reset block is idle, unfaulted and holds no stream. -/
theorem resetMeetsTheInvariant : Obligations.ResetMeetsTheInvariant where
  streamWf := reset_stream_wf
  streamBelow := by simp [State.reset]
  lenBound := Nat.zero_le _
  faultClear _ := ⟨rfl, rfl, rfl⟩
  faultSet h := by cases h
  running h := by cases h

/-! ### What no instruction reads (R25, R27, R30, R31) -/

/-- Two states agree on every field an instruction may read. -/
structure SameInputs (s s' : State) : Prop where
  x : s.x = s'.x
  y : s.y = s'.y
  tx : s.tx = s'.tx
  ty : s.ty = s'.ty
  tool : s.tool = s'.tool
  data : s.data = s'.data
  start : s.start = s'.start

theorem effectOf_sameInputs (i : Instr) {s s' : State} (h : SameInputs s s') :
    SameInputs (effectOf i s) (effectOf i s') := by
  cases s; cases s'
  obtain ⟨rfl, rfl, rfl, rfl, rfl, rfl, rfl⟩ := h
  cases i <;> exact ⟨rfl, rfl, rfl, rfl, rfl, rfl, rfl⟩

theorem eventsOf_sameInputs (i : Instr) {s s' : State} (h : SameInputs s s') : eventsOf i s = eventsOf i s' := by
  cases s; cases s'
  obtain ⟨rfl, rfl, rfl, rfl, rfl, rfl, rfl⟩ := h
  cases i <;> rfl

/-- Settles O24: the next fields and the events appended are functions of the inputs alone. -/
theorem instructionsReadNoStatusAndNoOutput : Obligations.InstructionsReadNoStatusAndNoOutput := by
  intro i s s' t t' hx hy htx hty htool hdata hstart ht ht'
  have h : SameInputs s s' := ⟨hx, hy, htx, hty, htool, hdata, hstart⟩
  obtain rfl := effectOf_of_exec ht
  obtain rfl := effectOf_of_exec ht'
  obtain ⟨ex, ey, etx, ety, etool, edata, estart⟩ := effectOf_sameInputs i h
  refine ⟨ex, ey, etx, ety, etool, edata, estart, ⟨eventsOf i s, effectOf_events i s, ?_⟩, ?_, ?_⟩
  · rw [eventsOf_sameInputs i h]
    exact effectOf_events i s'
  · rintro rfl
    rfl
  · intro hi
    obtain ⟨c, rfl⟩ := eq_toolReserved_of_isReserved hi
    exact ⟨rfl, rfl, rfl, hstart⟩

/-! ### The continuation (R32) -/

theorem toInt_ofInt_of_range {v : Int} (h : -2147483648 ≤ v ∧ v ≤ 2147483647) : (BitVec.ofInt 32 v).toInt = v :=
  BitVec.toInt_ofInt_eq_self (by decide) h.1 (by omega)

theorem continuationFits_iff (c : ContinuationTuple) : continuationFits c = true ↔
    (∀ v ∈ [c.x, c.y, c.tx, c.ty], -2147483648 ≤ v ∧ v ≤ 2147483647) ∧
      c.data < 4294967296 ∧ c.start < 4294967296 ∧ c.endFlag ≤ 1 := by
  simp [continuationFits, fitsCoord, fitsWord, and_assoc]

theorem continuationOf_fits (s : State) : continuationFits (continuationOf s) = true := by
  have coord (v : Coord) : -2147483648 ≤ v.toInt ∧ v.toInt ≤ 2147483647 :=
    ⟨BitVec.le_toInt v, Int.le_of_lt_add_one BitVec.toInt_lt⟩
  refine (continuationFits_iff _).2 ⟨?_, s.data.isLt, s.start.isLt, Bool.toNat_le s.endFlag⟩
  simp [continuationOf, coord]

/-- A tuple that fits is read back as it was written. -/
theorem continuationOf_restore {c : ContinuationTuple} {k : ToolMode} (hk : toolOfCode c.tool = some k)
    (hc : continuationFits c = true) (s : State) : continuationOf (restore c k s) = c := by
  obtain ⟨coords, hdata, hstart, hend⟩ := (continuationFits_iff c).1 hc
  simp only [List.forall_mem_cons] at coords
  obtain ⟨hx, hy, htx, hty, -⟩ := coords
  have flag : (decide (c.endFlag = 1)).toNat = c.endFlag := by
    obtain h | h : c.endFlag = 0 ∨ c.endFlag = 1 := by omega
    all_goals simp [h]
  simp [continuationOf, toInt_ofInt_of_range hx, toInt_ofInt_of_range hy, toInt_ofInt_of_range htx,
    toInt_ofInt_of_range hty, toolCode_of_toolOfCode hk, Nat.mod_eq_of_lt hdata, Nat.mod_eq_of_lt hstart, flag,
    -BitVec.toInt_ofInt]

/-- Writing back what was read restores the eight fields. -/
theorem restore_continuationOf (s u : State) : restore (continuationOf s) s.tool u =
    { u with x := s.x, y := s.y, tx := s.tx, ty := s.ty, tool := s.tool, data := s.data, start := s.start,
             endFlag := s.endFlag } := by
  simp [restore, continuationOf]

theorem hostMove_writeContinuation {c : ContinuationTuple} {k : ToolMode} (hk : toolOfCode c.tool = some k)
    (hc : continuationFits c = true) (s : State) :
    hostMove (.writeContinuation c) s = .next (answer none (restore c k s)) := by
  simp [hostMove, hostWriteContinuation, hk, hc]

theorem hostMove_writeContinuation_refused {c : ContinuationTuple}
    (h : ¬ (c.tool ≤ 2 ∧ continuationFits c = true)) (s : State) :
    hostMove (.writeContinuation c) s = .refused .continuationRefused := by
  simp only [hostMove, hostWriteContinuation]
  split
  · next k hk =>
    have htool : c.tool ≤ 2 := (toolOfCode_isSome_iff _).1 (by simp [hk])
    exact if_neg fun hc => h ⟨htool, hc⟩
  · rfl

/-! ### An invocation from the end of the stream (R182) -/

theorem runInvocation_of_idle (n : Nat) {s : State} (hp : s.phase = .idle) : runInvocation n s = .next s := by
  cases n with
  | zero => rfl
  | succ n => simp [runInvocation, hp]

theorem step_at_end {s : State} (hp : s.phase = .running) (hf : s.fault = false)
    (he : s.streamLen ≤ s.start.toNat) : step s = .next (exhaust s) := by
  simp [step, hp, hf, (atEnd_iff s).2 he]

theorem hostRun_of_no_fault {s : State} (hf : s.fault = false) : hostRun s = beginRunning (lowerEnd s) := by
  simp [hostRun, hf]

theorem invoke_at_end {s : State} (hs : Ready s) (he : s.streamLen ≤ s.start.toNat) :
    invoke s = .next (exhaust (beginRunning (lowerEnd s))) := by
  have hstep : step (beginRunning (lowerEnd s)) = .next (exhaust (beginRunning (lowerEnd s))) :=
    step_at_end rfl hs.2 he
  rw [invoke, hostRun_of_no_fault hs.2, stepBound, runInvocation, hstep]
  exact runInvocation_of_idle _ rfl

/-- Settles O37: reading and writing back are inverse on the tuples that fit, and every other tuple is refused. -/
theorem continuationIsSavedAndRestored : Obligations.ContinuationIsSavedAndRestored := by
  refine ⟨rfl, rfl, rfl, fun s => ⟨_, rfl, rfl⟩, fun s u => ?_, fun c s => ⟨?_, ?_⟩, fun s hs he => ?_⟩
  · refine ⟨_, hostMove_writeContinuation (toolOfCode_toolCode s.tool) (continuationOf_fits s) u, ?_⟩
    rw [restore_continuationOf]
    rfl
  · rintro ⟨coords, htool, widths⟩
    obtain ⟨k, hk⟩ := Option.isSome_iff_exists.1 ((toolOfCode_isSome_iff c.tool).2 htool)
    have hc := (continuationFits_iff c).2 ⟨coords, widths⟩
    exact ⟨_, hostMove_writeContinuation hk hc s, continuationOf_restore hk hc s, rfl, rfl, rfl, rfl⟩
  · intro h
    refine hostMove_writeContinuation_refused (fun ⟨htool, hc⟩ => h ?_) s
    obtain ⟨coords, widths⟩ := (continuationFits_iff c).1 hc
    exact ⟨coords, htool, widths⟩
  · exact ⟨_, invoke_at_end hs he, rfl⟩

/-! ### Who writes the cursor, `tool` and `end` (R21, R25, R26) -/

theorem hostMove_cursor {m : HostMove} {s t : State} (h : hostMove m s = .next t) :
    (t.x = s.x ∧ t.y = s.y) ∨ (m = .reset ∧ t.x = 0 ∧ t.y = 0) ∨
    (∃ c, m = .writeContinuation c ∧ t.x.toInt = c.x ∧ t.y.toInt = c.y) := by
  obtain ⟨bs, -, -, -, rfl⟩ | ⟨hm, rfl⟩ | ⟨-, -, rfl⟩ | ⟨-, -, rfl⟩ | ⟨c, k, hm, hk, hc, rfl⟩ | ⟨-, r, rfl⟩ :=
    hostMove_cases h
  case inr.inl => exact .inr (.inl ⟨hm, rfl, rfl⟩)
  case inr.inr.inr.inr.inl =>
    have back := continuationOf_restore hk hc s
    exact .inr (.inr ⟨c, hm, congrArg ContinuationTuple.x back, congrArg ContinuationTuple.y back⟩)
  all_goals exact .inl ⟨rfl, rfl⟩

theorem hostMove_tool {m : HostMove} {s t : State} (h : hostMove m s = .next t) :
    t.tool = s.tool ∨ (m = .reset ∧ t.tool = Config.resetTool) ∨
    (∃ c, m = .writeContinuation c ∧ (toolCode t.tool).toNat = c.tool) := by
  obtain ⟨bs, -, -, -, rfl⟩ | ⟨hm, rfl⟩ | ⟨-, -, rfl⟩ | ⟨-, -, rfl⟩ | ⟨c, k, hm, hk, -, rfl⟩ | ⟨-, r, rfl⟩ :=
    hostMove_cases h
  case inr.inl => exact .inr (.inl ⟨hm, rfl⟩)
  case inr.inr.inr.inr.inl => exact .inr (.inr ⟨c, hm, toolCode_of_toolOfCode hk⟩)
  all_goals exact .inl rfl

theorem hostMove_endFlag {m : HostMove} {s t : State} (h : hostMove m s = .next t) :
    t.endFlag = s.endFlag ∨ ((m = .run ∨ m = .reset) ∧ t.endFlag = false) ∨
    (∃ c, m = .writeContinuation c ∧ t.endFlag.toNat = c.endFlag) := by
  obtain ⟨bs, -, -, -, rfl⟩ | ⟨hm, rfl⟩ | ⟨-, -, rfl⟩ | ⟨hm, -, rfl⟩ | ⟨c, k, hm, hk, hc, rfl⟩ | ⟨-, r, rfl⟩ :=
    hostMove_cases h
  case inr.inl => exact .inr (.inl ⟨.inr hm, rfl⟩)
  case inr.inr.inr.inl => exact .inr (.inl ⟨.inl hm, rfl⟩)
  case inr.inr.inr.inr.inl =>
    exact .inr (.inr ⟨c, hm, congrArg ContinuationTuple.endFlag (continuationOf_restore hk hc s)⟩)
  all_goals exact .inl rfl

/-- Settles O30, by the causes of a next state. -/
theorem cursorMovesOnlyByCommit : Obligations.CursorMovesOnlyByCommit := by
  intro s t hstep hmoved
  have moved (h : t.x = s.x ∧ t.y = s.y) : False := hmoved.elim (· h.1) (· h.2)
  obtain ⟨-, rfl⟩ | ⟨hp, m, ms, hms, hm⟩ | ⟨-, -, rfl⟩ | ⟨hp, -, he, rfl⟩ | ⟨i, ha, rfl⟩ := step_next_cases hstep
  · exact (moved ⟨rfl, rfl⟩).elim
  · obtain same | ⟨rfl, hx, hy⟩ | ⟨c, rfl, hx, hy⟩ := hostMove_cursor hm
    · exact (moved same).elim
    · exact .inr (.inr (.inl ⟨hp, ms, hms, hx, hy⟩))
    · exact .inr (.inr (.inr ⟨hp, c, ms, hms, hx, hy⟩))
  · exact (moved ⟨rfl, rfl⟩).elim
  · exact .inr (.inl ⟨hp, he, rfl, rfl⟩)
  · obtain ⟨d, rfl⟩ | same := effectOf_cursor i s
    · exact .inl ⟨d, ha, by simp [effectOf], by simp [effectOf], by simp [effectOf], by simp [effectOf]⟩
    · exact (moved (by simpa using same)).elim

/-- The writers of the tool mode, one step. -/
theorem step_tool_writers {s t : State} (hstep : step s = .next t) (hne : t.tool ≠ s.tool) :
    (AboutTo .toolNone s ∧ t.tool = .none) ∨ (AboutTo .toolLine s ∧ t.tool = .line) ∨
    (AboutTo .toolBlock s ∧ t.tool = .block) ∨
    (s.phase = .running ∧ s.streamLen ≤ s.start.toNat ∧ t.tool = Config.resetTool) ∨
    (s.phase = .idle ∧ ∃ ms, s.hostMoves = .reset :: ms ∧ t.tool = Config.resetTool) ∨
    (s.phase = .idle ∧ ∃ c ms, s.hostMoves = .writeContinuation c :: ms ∧ (toolCode t.tool).toNat = c.tool) := by
  obtain ⟨-, rfl⟩ | ⟨hp, m, ms, hms, hm⟩ | ⟨-, -, rfl⟩ | ⟨hp, -, he, rfl⟩ | ⟨i, ha, rfl⟩ := step_next_cases hstep
  · exact absurd rfl hne
  · obtain same | ⟨rfl, ht⟩ | ⟨c, rfl, ht⟩ := hostMove_tool hm
    · exact absurd same hne
    · exact .inr (.inr (.inr (.inr (.inl ⟨hp, ms, hms, ht⟩))))
    · exact .inr (.inr (.inr (.inr (.inr ⟨hp, c, ms, hms, ht⟩))))
  · exact absurd rfl hne
  · exact .inr (.inr (.inr (.inl ⟨hp, he, rfl⟩)))
  · rw [settle_tool] at hne ⊢
    obtain ⟨rfl, ht⟩ | ⟨rfl, ht⟩ | ⟨rfl, ht⟩ | same := effectOf_tool i s
    · exact .inl ⟨ha, ht⟩
    · exact .inr (.inl ⟨ha, ht⟩)
    · exact .inr (.inr (.inl ⟨ha, ht⟩))
    · exact absurd same hne

/-- The writers of `end`, one step. -/
theorem step_endFlag_writers {s t : State} (hstep : step s = .next t) (hne : t.endFlag ≠ s.endFlag) :
    (AboutTo .toolNextframe s ∧ t.endFlag = true) ∨
    (s.phase = .running ∧ s.streamLen ≤ s.start.toNat ∧ t.endFlag = false) ∨
    (s.phase = .idle ∧ ∃ ms, (s.hostMoves = .run :: ms ∨ s.hostMoves = .reset :: ms) ∧ t.endFlag = false) ∨
    (s.phase = .idle ∧ ∃ c ms, s.hostMoves = .writeContinuation c :: ms ∧ t.endFlag.toNat = c.endFlag) := by
  obtain ⟨-, rfl⟩ | ⟨hp, m, ms, hms, hm⟩ | ⟨-, -, rfl⟩ | ⟨hp, -, he, rfl⟩ | ⟨i, ha, rfl⟩ := step_next_cases hstep
  · exact absurd rfl hne
  · obtain same | ⟨rfl | rfl, ht⟩ | ⟨c, rfl, ht⟩ := hostMove_endFlag hm
    · exact absurd same hne
    · exact .inr (.inr (.inl ⟨hp, ms, .inl hms, ht⟩))
    · exact .inr (.inr (.inl ⟨hp, ms, .inr hms, ht⟩))
    · exact .inr (.inr (.inr ⟨hp, c, ms, hms, ht⟩))
  · exact absurd rfl hne
  · exact .inr (.inl ⟨hp, he, rfl⟩)
  · rw [settle_endFlag] at hne ⊢
    obtain ⟨rfl, ht⟩ | same := effectOf_endFlag i s
    · exact .inl ⟨ha, ht⟩
    · exact absurd same hne

/-- Settles O31, field by field. -/
theorem toolAndEndChangeOnlyByTheirWriters : Obligations.ToolAndEndChangeOnlyByTheirWriters :=
  fun _ _ hstep => ⟨step_tool_writers hstep, step_endFlag_writers hstep⟩

/-! ### The first DY after reset (R35) -/

/-- Settles O10: the events appended are the draw of the tool mode at reset, from the cursor at 0. -/
theorem firstDyFollowsResetTool : Obligations.FirstDyFollowsResetTool := by
  intro d
  have events : (effectOf (.dy d) State.reset).events = drawEvents (setTy d State.reset) := by
    simp [effectOf_events, eventsOf, State.reset]
  refine ⟨_, exec_eq_effectOf _ _, ?_, ?_, ?_⟩ <;> intro h <;> rw [events] <;>
    simp [drawEvents, State.reset, h]

end Sys2Proof.Machine
end

section
/-! PROOFS. The stream (spec/20_memory.md): what a step can refuse, and the stream once an invocation has been
started. -/

namespace Sys2Proof.Machine

/-! ### What is refused (R32, R58, R201) -/

/-- A move of the host is taken, or it is a load or a written continuation and is refused. -/
theorem hostMove_taken_or_refused (m : HostMove) (s : State) :
    (∃ t, hostMove m s = .next t) ∨
    (∃ r, hostMove m s = .refused r ∧ ((∃ bs, m = .load bs) ∨ ∃ c, m = .writeContinuation c)) := by
  cases m with
  | load bs =>
    simp only [hostMove, hostLoad]
    split
    · exact .inr ⟨_, rfl, .inl ⟨bs, rfl⟩⟩
    split
    · exact .inr ⟨_, rfl, .inl ⟨bs, rfl⟩⟩
    · exact .inl ⟨_, rfl⟩
  | writeContinuation c =>
    by_cases h : c.tool ≤ 2 ∧ continuationFits c = true
    · obtain ⟨htool, hc⟩ := h
      obtain ⟨k, hk⟩ := Option.isSome_iff_exists.1 ((toolOfCode_isSome_iff c.tool).2 htool)
      exact .inl ⟨_, hostMove_writeContinuation hk hc s⟩
    · exact .inr ⟨_, hostMove_writeContinuation_refused h s, .inr ⟨c, rfl⟩⟩
  | reset | run | readContinuation | readFaultStatus | stop => exact .inl ⟨_, rfl⟩

/-- A step goes on, or the idle block refuses the host's next move, a load or a written continuation. -/
theorem step_next_or_refused (s : State) :
    (∃ t, step s = .next t) ∨
    (∃ r, step s = .refused r ∧ s.phase = .idle ∧
      ((∃ bs ms, s.hostMoves = .load bs :: ms) ∨ ∃ c ms, s.hostMoves = .writeContinuation c :: ms)) := by
  obtain ⟨-, -, hs⟩ | ⟨hp, m, ms, hms, hs⟩ | ⟨-, -, hs⟩ | ⟨-, -, -, hs⟩ | ⟨-, -, -, hs⟩ := step_cases s
  case inr.inl =>
    rw [hs]
    obtain taken | ⟨r, hr, ⟨bs, rfl⟩ | ⟨c, rfl⟩⟩ := hostMove_taken_or_refused m (setMoves ms s)
    · exact .inl taken
    · exact .inr ⟨r, hr, hp, .inl ⟨bs, ms, hms⟩⟩
    · exact .inr ⟨r, hr, hp, .inr ⟨c, ms, hms⟩⟩
  all_goals exact .inl ⟨_, hs⟩

/-- Settles O28: each step goes on or refuses one of the two moves. -/
theorem onlyHostMovesAreRefused : Obligations.OnlyHostMovesAreRefused := by
  intro s
  obtain ⟨t, hs⟩ | ⟨r, hs, refusedMove⟩ := step_next_or_refused s <;> rw [hs]
  · exact ⟨nofun, nofun⟩
  · exact ⟨nofun, fun _ _ => refusedMove⟩

/-! ### The stream after the first Run (R54, R58) -/

/-- A read looks at the stream and its length alone. -/
theorem memRead_congr {s t : State} (hl : t.streamLen = s.streamLen) (hs : t.stream = s.stream) (a : Nat) :
    memRead t a = memRead s a := by
  rw [memRead, memRead, hl, hs]

/-- After the first Run a load is refused, and no other move writes the stream. -/
theorem hostMove_keeps_stream {m : HostMove} {s t : State} (hl : s.launched = true)
    (h : hostMove m s = .next t) : t.launched = true ∧ t.streamLen = s.streamLen ∧ t.stream = s.stream := by
  obtain ⟨bs, -, hn, -, -⟩ | ⟨-, rfl⟩ | ⟨-, -, rfl⟩ | ⟨-, -, rfl⟩ | ⟨c, k, -, -, -, rfl⟩ | ⟨-, r, rfl⟩ :=
    hostMove_cases h
  case inl =>
    rw [hl] at hn
    cases hn
  all_goals simp [hl]

theorem step_keeps_stream {s t : State} (hl : s.launched = true) (h : step s = .next t) :
    t.launched = true ∧ t.streamLen = s.streamLen ∧ t.stream = s.stream := by
  obtain ⟨-, rfl⟩ | ⟨-, m, ms, -, hm⟩ | ⟨-, -, rfl⟩ | ⟨-, -, -, rfl⟩ | ⟨i, -, rfl⟩ := step_next_cases h
  case inr.inl => exact hostMove_keeps_stream (s := setMoves ms s) hl hm
  all_goals simp [hl]

/-- Settles O32: the stream and its length stay, so every read does. -/
theorem streamIsFixedOnceLaunched : Obligations.StreamIsFixedOnceLaunched := by
  intro s t hl h
  obtain ⟨launched, length, stream⟩ := step_keeps_stream hl h
  exact ⟨launched, length, stream, memRead_congr length stream⟩

end Sys2Proof.Machine
end

section
/-! PROOFS. The encoding (spec/30_encoding.md R71 to R78): what the two fields of a byte say, and the rows of the
opcode table. -/

namespace Sys2Proof

/-- A byte's number is 64 times its opcode plus its operand. -/
theorem byte_toNat_fields (b : Byte) : b.toNat = (opcodeOf b).toNat * 64 + (operandOf b).toNat := by
  rw [← joinByte_toNat, joinByte_fields]

/-- Each opcode with the decoder's answer on it (R72, R90). -/
theorem decodeByte_cases (b : Byte) :
    ((opcodeOf b).toNat = 0 ∧ decodeByte b = .dx (delta (operandOf b))) ∨
    ((opcodeOf b).toNat = 1 ∧ decodeByte b = .dy (delta (operandOf b))) ∨
    ((opcodeOf b).toNat = 2 ∧ decodeByte b = decodeTool (operandOf b)) ∨
    ((opcodeOf b).toNat = 3 ∧ decodeByte b = .data (operandOf b)) := by
  have four : ∀ op : BitVec 2, op.toNat = 0 ∨ op.toNat = 1 ∨ op.toNat = 2 ∨ op.toNat = 3 := by decide
  obtain h | h | h | h := four (opcodeOf b) <;> simp [decodeByte, h]

/-- The operand of DX and DY in two's complement (R73). -/
theorem delta_toInt (f : Field6) : (delta f).toInt = if f.toNat < 32 then (f.toNat : Int) else f.toNat - 64 := by
  rw [delta, BitVec.toInt_signExtend_of_le (by decide), BitVec.toInt_eq_toNat_cond]
  split <;> split <;> omega

theorem deltaInRange_iff (d : Coord) : deltaInRange d = true ↔ -32 ≤ d.toInt ∧ d.toInt ≤ 31 := by
  simp [deltaInRange]

/-- A delta in range is its own low six bits, extended again. -/
theorem delta_setWidth {d : Coord} (h : deltaInRange d = true) : delta (d.setWidth 6) = d := by
  have hd := (deltaInRange_iff d).1 h
  have value := BitVec.toInt_eq_toNat_cond d
  apply BitVec.eq_of_toInt_eq
  rw [delta_toInt, BitVec.toNat_setWidth]
  split at value <;> split <;> omega

theorem decodeTool_defined_or_reserved : ∀ c : Field6,
    Machine.isDefinedTool (decodeTool c) = true ∨ Machine.isReserved (decodeTool c) = true := by decide

/-- Settles O3, opcode by opcode. -/
theorem opcodeRangesFixTheInstruction : Obligations.OpcodeRangesFixTheInstruction := by
  intro b
  have value := byte_toNat_fields b
  have operand := (operandOf b).isLt
  obtain ⟨op, h⟩ | ⟨op, h⟩ | ⟨op, h⟩ | ⟨op, h⟩ := decodeByte_cases b
  · refine ⟨fun _ => ⟨_, h, ?_⟩, by omega, by omega, by omega⟩
    rw [delta_toInt]
    split <;> split <;> omega
  · refine ⟨by omega, fun _ _ => ⟨_, h, ?_⟩, by omega, by omega⟩
    rw [delta_toInt]
    split <;> split <;> omega
  · exact ⟨by omega, by omega,
      fun _ _ => ⟨_, h, by omega, h ▸ decodeTool_defined_or_reserved (operandOf b)⟩, by omega⟩
  · exact ⟨by omega, by omega, by omega, fun _ => ⟨_, h, by omega⟩⟩

/-- Settles O4: on opcode 2 the decoder reads the list of names. -/
theorem toolSubopcodeNumbers : Obligations.ToolSubopcodeNumbers := by
  intro c
  rw [decodeByte_opcode2]
  revert c
  decide

/-- Settles O5, row by row on the 256 bytes. -/
theorem everyByteIsInExactlyOneTableRow : Obligations.EveryByteIsInExactlyOneTableRow := by
  unfold Obligations.EveryByteIsInExactlyOneTableRow
  decide

end Sys2Proof
end

section
/-! PROOFS. The assembly text (spec/30_encoding.md R79): a line that the model writes is read back as its words,
and a numeral as its number. -/

namespace Sys2Proof.Machine

/-! ### The words of a line -/

/-- A character that no line is cut at: neither a blank, nor a comma, nor the start of a comment. -/
def isWordChar (c : Char) : Bool := !([' ', '\t', '\r', ',', ';'].contains c)

/-- What can stand between two blanks of a line. -/
def isWord (w : List Char) : Bool := !w.isEmpty && w.all isWordChar

theorem isWordChar_iff (c : Char) :
    isWordChar c = true ↔ c ≠ ' ' ∧ c ≠ '\t' ∧ c ≠ '\r' ∧ c ≠ ',' ∧ c ≠ ';' := by
  simp [isWordChar]

theorem isWord_iff (w : List Char) : isWord w = true ↔ w ≠ [] ∧ ∀ c ∈ w, isWordChar c = true := by
  simp [isWord]

theorem withoutComment_eq_self {l : List Char} (h : ';' ∉ l) : withoutComment l = l := by
  rw [withoutComment, List.takeWhile_eq_self_iff]
  intro c hc
  simpa using ne_of_mem_of_not_mem hc h

theorem semicolon_not_mem_word {w : List Char} (h : isWord w = true) : ';' ∉ w := fun hc => by
  have : isWordChar ';' = true := ((isWord_iff w).1 h).2 _ hc
  revert this
  decide

/-- Reading a word's characters moves them to the word read so far. -/
theorem wordsOf_chars (w cur rest : List Char) (h : ∀ c ∈ w, isWordChar c = true) :
    wordsOf cur (w ++ rest) = wordsOf (w.reverse ++ cur) rest := by
  induction w generalizing cur with
  | nil => rfl
  | cons c w ih =>
    obtain ⟨hc, hw⟩ := List.forall_mem_cons.1 h
    simpa [wordsOf, (isWordChar_iff c).1 hc] using ih (c :: cur) hw

section
variable {w : List Char} (h : isWord w = true)
include h

theorem closeWord_reverse : closeWord (w.reverse ++ []) = [w] := by
  simp [closeWord, ((isWord_iff w).1 h).1]

theorem wordsOf_word : wordsOf [] w = [w] := by
  have := wordsOf_chars w [] [] ((isWord_iff w).1 h).2
  rw [List.append_nil] at this
  rw [this, wordsOf, closeWord_reverse h]

theorem wordsOf_word_blank (rest : List Char) : wordsOf [] (w ++ ' ' :: rest) = w :: wordsOf [] rest := by
  rw [wordsOf_chars w [] _ ((isWord_iff w).1 h).2, wordsOf, closeWord_reverse h]
  rfl

theorem wordsOf_word_comma (rest : List Char) :
    wordsOf [] (w ++ ',' :: rest) = w :: [','] :: wordsOf [] rest := by
  rw [wordsOf_chars w [] _ ((isWord_iff w).1 h).2, wordsOf, closeWord_reverse h]
  rfl

end

/-- The line `name operand` is its two words. -/
theorem wordsOf_unary {name a : List Char} (hn : isWord name = true) (ha : isWord a = true) :
    wordsOf [] (withoutComment (name ++ ' ' :: a)) = [name, a] := by
  rw [withoutComment_eq_self (by simp [semicolon_not_mem_word hn, semicolon_not_mem_word ha]),
    wordsOf_word_blank hn, wordsOf_word ha]

/-- The line `name a, b` is its name, its operands and the comma between them. -/
theorem wordsOf_binary {name a b : List Char} (hn : isWord name = true) (ha : isWord a = true)
    (hb : isWord b = true) :
    wordsOf [] (withoutComment (name ++ ' ' :: (a ++ ',' :: ' ' :: b))) = [name, a, [','], b] := by
  have blank : wordsOf [] (' ' :: b) = wordsOf [] b := rfl
  rw [withoutComment_eq_self
      (by simp [semicolon_not_mem_word hn, semicolon_not_mem_word ha, semicolon_not_mem_word hb]),
    wordsOf_word_blank hn, wordsOf_word_comma ha, blank, wordsOf_word hb]

/-! ### Decimal numerals -/

theorem digitOf_of_isDigit {c : Char} (h : c.isDigit = true) : digitOf 10 c = some (c.toNat - 48) := by
  obtain ⟨lo, hi⟩ : 48 ≤ c.toNat ∧ c.toNat ≤ 57 := Char.isDigit_iff_toNat.1 h
  have : c.toNat - 48 < 10 := by omega
  simp [digitOf, digitValue, lo, hi, this]

/-- The assembler reads digits as the library does. -/
theorem readDigits_eq_ofDigitChars (cs : List Char) (n : Nat) (h : ∀ c ∈ cs, c.isDigit = true) :
    readDigits 10 n cs = some (Nat.ofDigitChars 10 cs n) := by
  induction cs generalizing n with
  | nil => simp [readDigits]
  | cons c cs ih =>
    obtain ⟨hc, hcs⟩ := List.forall_mem_cons.1 h
    rw [readDigits, digitOf_of_isDigit hc, Option.bind_some, ih _ hcs, Nat.ofDigitChars_cons]
    rfl

theorem isDigit_of_mem_writeNat {n : Nat} {c : Char} (h : c ∈ writeNat n) : c.isDigit = true :=
  Nat.isDigit_of_mem_toDigits (by decide) (by decide) h

/-- A written number is a first digit and further ones. -/
theorem writeNat_eq_cons (n : Nat) :
    ∃ c cs, writeNat n = c :: cs ∧ c.isDigit = true ∧ ∀ d ∈ cs, d.isDigit = true := by
  obtain ⟨c, cs, h⟩ := List.exists_cons_of_ne_nil (Nat.toDigits_ne_nil (n := n) (b := 10))
  have digits : ∀ d ∈ c :: cs, d.isDigit = true := fun d hd =>
    isDigit_of_mem_writeNat (n := n) (by rwa [writeNat, h])
  exact ⟨c, cs, h, List.forall_mem_cons.1 digits⟩

theorem readNat_writeNat (n : Nat) : readNat 10 (writeNat n) = some n := by
  obtain ⟨c, cs, h, -, -⟩ := writeNat_eq_cons n
  have value := readDigits_eq_ofDigitChars (writeNat n) 0 fun _ => isDigit_of_mem_writeNat
  rw [writeNat, Nat.ofDigitChars_ten_toDigits, ← writeNat, h] at value
  rw [h, readNat, value]

theorem readInt_writeNat (n : Nat) : readInt (writeNat n) = some (n : Int) := by
  have value := readNat_writeNat n
  obtain ⟨c, cs, h, hc, -⟩ := writeNat_eq_cons n
  rw [h] at value ⊢
  unfold readInt
  split
  · next heq =>
    obtain ⟨rfl, -⟩ := List.cons.inj heq
    cases hc
  · rw [value]
    rfl

/-- A decimal number never starts like one of another radix. -/
theorem readNumeral_writeNat (n : Nat) : readNumeral (writeNat n) = some (n : Int) := by
  have value := readInt_writeNat n
  obtain ⟨c, cs, h, -, hcs⟩ := writeNat_eq_cons n
  rw [h] at value ⊢
  unfold readNumeral
  split
  · next heq =>
    obtain ⟨-, rfl⟩ := List.cons.inj heq
    cases hcs 'x' (by simp)
  · next heq =>
    obtain ⟨-, rfl⟩ := List.cons.inj heq
    cases hcs 'b' (by simp)
  · exact value

theorem readInt_writeInt (v : Int) : readInt (writeInt v) = some v := by
  unfold writeInt
  split
  · rw [readInt, readNat_writeNat]
    exact congrArg some (show -(v.natAbs : Int) = v by omega)
  · rw [readInt_writeNat]
    exact congrArg some (by omega)

theorem isWordChar_of_isDigit {c : Char} (h : c.isDigit = true) : isWordChar c = true := by
  rw [isWordChar_iff]
  refine ⟨?_, ?_, ?_, ?_, ?_⟩ <;> rintro rfl <;> cases h

theorem isWord_writeNat (n : Nat) : isWord (writeNat n) = true :=
  (isWord_iff _).2 ⟨Nat.toDigits_ne_nil, fun _ hc => isWordChar_of_isDigit (isDigit_of_mem_writeNat hc)⟩

theorem isWord_writeInt (v : Int) : isWord (writeInt v) = true := by
  unfold writeInt
  split
  · refine (isWord_iff _).2 ⟨List.cons_ne_nil _ _, List.forall_mem_cons.2 ⟨by decide, ?_⟩⟩
    exact ((isWord_iff _).1 (isWord_writeNat v.natAbs)).2
  · exact isWord_writeNat _

/-! ### The operand in its range, or an error (R79) -/

section
variable {lo hi v : Int}

theorem inRange_of_mem (h : lo ≤ v ∧ v ≤ hi) : inRange lo hi (some v) = .ok v := if_pos h

theorem inRange_of_not_mem (h : ¬ (lo ≤ v ∧ v ≤ hi)) : inRange lo hi (some v) = .error .outOfRange := if_neg h

end

section
variable (w : List Char)

theorem assembleWords_dx : assembleWords ['D', 'X'] w =
    (inRange (-32) 31 (readInt w)).map fun d => encode (.dx (BitVec.ofInt 32 d)) := rfl

theorem assembleWords_dy : assembleWords ['D', 'Y'] w =
    (inRange (-32) 31 (readInt w)).map fun d => encode (.dy (BitVec.ofInt 32 d)) := rfl

theorem assembleWords_data : assembleWords ['D', 'A', 'T', 'A'] w =
    (inRange 0 63 (readNumeral w)).map fun f => encode (.data (BitVec.ofInt 6 f)) := rfl

/-- `.byte` and the pseudo-instructions read their operand alike (log 22). -/
theorem assembleWords_byte : assembleWords ['.', 'b', 'y', 't', 'e'] w = readByte w := rfl

end

section
variable {w : List Char} {v : Int} (h : readNumeral w = some v)
include h

theorem readByte_of_mem (hv : 0 ≤ v ∧ v ≤ 255) : readByte w = .ok (BitVec.ofInt 8 v) := by
  rw [readByte, h, inRange_of_mem hv]
  rfl

theorem readByte_of_not_mem (hv : ¬ (0 ≤ v ∧ v ≤ 255)) : readByte w = .error .outOfRange := by
  rw [readByte, h, inRange_of_not_mem hv]
  rfl

/-- A number of 0..255 is read as the byte of exactly that number. -/
theorem readByte_value (h0 : 0 ≤ v) (h1 : v ≤ 255) : ∃ b : Byte, (b.toNat : Int) = v ∧ readByte w = .ok b :=
  ⟨_, by rw [BitVec.toNat_ofInt]; omega, readByte_of_mem h ⟨h0, h1⟩⟩

end

theorem readByte_writeNat (b : Byte) : readByte (writeNat b.toNat) = .ok b := by
  rw [readByte_of_mem (readNumeral_writeNat b.toNat) (by omega), BitVec.ofInt_natCast, BitVec.ofNat_toNat,
    BitVec.setWidth_eq]

/-! ### The line of an instruction -/

theorem decodeByte_wellFormed : ∀ b : Byte, (decodeByte b).wellFormed = true := by decide

/-- The text of a delta in range is read back as that delta. -/
theorem inRange_delta {d : Coord} (h : deltaInRange d = true) :
    inRange (-32) 31 (readInt (writeInt d.toInt)) = .ok d.toInt := by
  rw [readInt_writeInt, inRange_of_mem ((deltaInRange_iff d).1 h)]

theorem assembleLine_instruction {name a : List Char} {b : Byte} (hn : isWord name = true)
    (ha : isWord a = true) (hp : (unaryPseudo name).isNone = true) (h : assembleWords name a = .ok b) :
    assembleLine (name ++ ' ' :: a) = .ok [b] := by
  rw [assembleLine, wordsOf_unary hn ha]
  simp [Option.isNone_iff_eq_none.1 hp, h, Except.map]

/-- The line of an instruction whose operand is in range assembles to its byte. -/
theorem assembleLine_asmText {i : Instr} (h : i.wellFormed = true) : assembleLine (asmText i) = .ok [encode i] := by
  cases i with
  | dx d =>
    refine assembleLine_instruction (name := ['D', 'X']) (a := writeInt d.toInt) (by decide)
      (isWord_writeInt _) (by decide) ?_
    rw [assembleWords_dx, inRange_delta h, Except.map, BitVec.ofInt_toInt]
  | dy d =>
    refine assembleLine_instruction (name := ['D', 'Y']) (a := writeInt d.toInt) (by decide)
      (isWord_writeInt _) (by decide) ?_
    rw [assembleWords_dy, inRange_delta h, Except.map, BitVec.ofInt_toInt]
  | data f =>
    refine assembleLine_instruction (name := ['D', 'A', 'T', 'A']) (a := writeNat f.toNat) (by decide)
      (isWord_writeNat _) (by decide) ?_
    rw [assembleWords_data, readNumeral_writeNat, inRange_of_mem (by omega), Except.map, BitVec.ofInt_natCast,
      BitVec.ofNat_toNat, BitVec.setWidth_eq]
  | toolReserved c =>
    refine assembleLine_instruction (name := ['.', 'b', 'y', 't', 'e'])
      (a := writeNat (joinByte 2 c).toNat) (by decide) (isWord_writeNat _) (by decide) ?_
    rw [assembleWords_byte, readByte_writeNat, encode]
  | toolNone | toolLine | toolBlock | toolColour | toolTargetX | toolTargetY | toolShow | toolPause
  | toolNextframe => decide

/-- A number of -32..31 as operand of DX and DY gives the instruction of exactly that delta. -/
theorem delta_operand_assembles {w : List Char} {v : Int} (h : readInt w = some v) (hv : -32 ≤ v ∧ v ≤ 31) :
    ∃ (b c : Byte) (d : Coord), d.toInt = v ∧
      assembleWords ['D', 'X'] w = .ok b ∧ decodeByte b = .dx d ∧
      assembleWords ['D', 'Y'] w = .ok c ∧ decodeByte c = .dy d := by
  have value : (BitVec.ofInt 32 v).toInt = v := toInt_ofInt_of_range (by omega)
  have back : delta ((BitVec.ofInt 32 v).setWidth 6) = BitVec.ofInt 32 v :=
    delta_setWidth ((deltaInRange_iff _).2 (by rwa [value]))
  refine ⟨encode (.dx (BitVec.ofInt 32 v)), encode (.dy (BitVec.ofInt 32 v)), _, value, ?_, ?_, ?_, ?_⟩
  · rw [assembleWords_dx, h, inRange_of_mem hv, Except.map]
  · rw [encode, decodeByte_opcode0, back]
  · rw [assembleWords_dy, h, inRange_of_mem hv, Except.map]
  · rw [encode, decodeByte_opcode1, back]

/-- A number of 0..63 as operand of DATA gives the instruction of exactly that field. -/
theorem data_operand_assembles {w : List Char} {v : Int} (h : readNumeral w = some v) (hv : 0 ≤ v ∧ v ≤ 63) :
    ∃ (b : Byte) (f : Field6), (f.toNat : Int) = v ∧
      assembleWords ['D', 'A', 'T', 'A'] w = .ok b ∧ decodeByte b = .data f := by
  refine ⟨_, BitVec.ofInt 6 v, by rw [BitVec.toNat_ofInt]; omega, ?_, decodeByte_opcode3 _⟩
  rw [assembleWords_data, h, inRange_of_mem hv]
  rfl

/-- Settles O56: the text of well-formed instructions, and each operand's range. -/
theorem assemblerInvertsTextAndNeverWraps : Obligations.AssemblerInvertsTextAndNeverWraps := by
  refine ⟨fun b => ?_, fun w v h => ⟨fun lo hi => delta_operand_assembles h ⟨lo, hi⟩, fun out => ?_⟩,
    fun w v h => ⟨fun lo hi => data_operand_assembles h ⟨lo, hi⟩, fun out => ?_, readByte_value h,
      readByte_of_not_mem h⟩, by decide⟩
  · rw [assembleLine_asmText (decodeByte_wellFormed b), encode_decodeByte]
  · rw [assembleWords_dx, assembleWords_dy, h, inRange_of_not_mem out]
    exact ⟨rfl, rfl⟩
  · rw [assembleWords_data, h, inRange_of_not_mem out]
    rfl

/-! ### The line of a pseudo-instruction (R80) -/

theorem assembleLine_unaryPseudo {name : List Char} {p : Byte → Pseudo} (hn : isWord name = true)
    (hp : unaryPseudo name = some p) (w : Byte) :
    assembleLine (name ++ ' ' :: writeNat w.toNat) = .ok ((p w).expand.map encode) := by
  rw [assembleLine, wordsOf_unary hn (isWord_writeNat _)]
  simp [hp, readByte_writeNat, Except.map, Pseudo.bytes]

theorem assembleLine_binaryPseudo {name : List Char} {p : Byte → Byte → Pseudo} (hn : isWord name = true)
    (hp : binaryPseudo name = some p) (a b : Byte) :
    assembleLine (name ++ ' ' :: (writeNat a.toNat ++ ',' :: ' ' :: writeNat b.toNat)) =
      .ok ((p a b).expand.map encode) := by
  rw [assembleLine, wordsOf_binary hn (isWord_writeNat _) (isWord_writeNat _)]
  simp [hp, readByte_writeNat, Except.map, Except.bind, Pseudo.bytes]

theorem assembleLine_pseudoText (p : Pseudo) : assembleLine (pseudoText p) = .ok (p.expand.map encode) := by
  cases p with
  | lit w => exact assembleLine_unaryPseudo (name := ['L', 'I', 'T']) (by decide) rfl w
  | setX w => exact assembleLine_unaryPseudo (name := ['S', 'E', 'T', 'X']) (by decide) rfl w
  | setY w => exact assembleLine_unaryPseudo (name := ['S', 'E', 'T', 'Y']) (by decide) rfl w
  | colourV v =>
    exact assembleLine_unaryPseudo (name := ['C', 'O', 'L', 'O', 'U', 'R', 'V']) (by decide) rfl v
  | moveTo a b =>
    rw [pseudoText, List.append_assoc, List.append_assoc]
    exact assembleLine_binaryPseudo (name := ['M', 'O', 'V', 'E', 'T', 'O']) (by decide) rfl a b
  | fillTo a b =>
    rw [pseudoText, List.append_assoc, List.append_assoc]
    exact assembleLine_binaryPseudo (name := ['F', 'I', 'L', 'L', 'T', 'O']) (by decide) rfl a b

/-- Settles O60: P2's three lines assemble one by one. -/
theorem pseudoTextAssemblesToItsExpansion : Obligations.PseudoTextAssemblesToItsExpansion := by
  refine ⟨assembleLine_pseudoText, fun w v h => ⟨readByte_value h, readByte_of_not_mem h⟩, ?_⟩
  simp only [assembleLines, assembleLine_pseudoText]
  decide

end Sys2Proof.Machine
end

section
/-! PROOFS. The pseudo-instructions (spec/30_encoding.md R80) and one run of the encoder (R81), from a cleared
accumulator. -/

namespace Sys2Proof.Machine

/-! ### Straight runs of instructions -/

/-- A run in two parts. -/
theorem execAll_append {is js : List Instr} {s t : State} (h : execAll is s = .next t) :
    execAll (is ++ js) s = execAll js t := by
  induction is generalizing s with
  | nil => rw [Host.Outcome.next.inj h, List.nil_append]
  | cons i is ih =>
    simp only [execAll, List.cons_append, exec_eq_effectOf] at h ⊢
    exact ih h

/-- A chain of DATA instructions shifts its fields into the accumulator and moves on. -/
theorem execAll_data (fs : List Field6) (s : State) : ∃ n, execAll (fs.map .data) s =
    .next { s with data := fs.foldl shiftInField s.data, start := n } := by
  induction fs generalizing s with
  | nil => exact ⟨s.start, rfl⟩
  | cons f fs ih =>
    obtain ⟨n, h⟩ := ih (effectOf (.data f) s)
    exact ⟨n, h⟩

/-- `DY 0` draws to the target as it stands and commits it. -/
theorem exec_dy_zero (s : State) : exec (.dy 0) s = .next (advance (commitCursor (drawWithTool s))) := by
  rw [exec_eq_effectOf, effectOf, show s.ty + 0 = s.ty from BitVec.add_zero _]
  rfl

theorem drawWithTool_none {s : State} (h : s.tool = .none) : drawWithTool s = s := by
  rw [drawWithTool, drawEvents, h]
  exact congrArg (fun es => { s with events := es }) (List.append_nil s.events)

theorem execAll_toolColour (s : State) : execAll [.toolColour] s =
    .next { s with data := 0, start := s.start + 1, events := s.events ++ [.setColour s.data] } := rfl

/-! ### What the operand encodings leave in the accumulator (R162, R165) -/

/-- The wide operand, one field or two, is the coordinate itself. -/
theorem wideEncode_accumulates : ∀ w : Byte, (wideEncode w).foldl shiftInField 0 = w.setWidth 32 := by decide

/-- The colour layout holds the byte three times over, above the two fixed bits. -/
theorem colourEncode_accumulates : ∀ v : Byte,
    (colourEncode v).toList.foldl shiftInField 0 = BitVec.ofNat 32 (v.toNat * 263172 + 3) := by decide

theorem toInt_setWidth_byte (b : Byte) : (b.setWidth 32).toInt = b.toNat := by
  rw [BitVec.toInt_setWidth]
  exact Int.bmod_eq_of_le (by omega) (by omega)

/-! ### The effect of each pseudo-instruction -/

section
variable (a b : Byte) {s : State} (h : s.data = 0)
include h

theorem execAll_lit : ∃ n, execAll (expandLit a) s = .next { s with data := a.setWidth 32, start := n } := by
  obtain ⟨n, hn⟩ := execAll_data (wideEncode a) s
  rw [h, wideEncode_accumulates] at hn
  exact ⟨n, hn⟩

theorem execAll_setX : ∃ n, execAll (expandSetX a) s =
    .next { s with tx := a.setWidth 32, data := 0, start := n } := by
  obtain ⟨n, hn⟩ := execAll_lit a h
  exact ⟨n + 1, execAll_append hn⟩

theorem execAll_setY : ∃ n, execAll (expandSetY a) s =
    .next { s with ty := a.setWidth 32, data := 0, start := n } := by
  obtain ⟨n, hn⟩ := execAll_lit a h
  exact ⟨n + 1, execAll_append hn⟩

theorem execAll_colourV : ∃ n, execAll (Pseudo.colourV a).expand s =
    .next { s with data := 0, start := n,
                   events := s.events ++ [.setColour (BitVec.ofNat 32 (a.toNat * 263172 + 3))] } := by
  obtain ⟨n, hn⟩ := execAll_data (colourEncode a).toList s
  rw [h, colourEncode_accumulates] at hn
  exact ⟨n + 1, by rw [Pseudo.expand, execAll_append hn, execAll_toolColour]⟩

/-- What MOVETO and FILLTO begin with: both targets are set. -/
theorem execAll_setTarget : ∃ n, execAll (expandSetX a ++ expandSetY b) s =
    .next { s with tx := a.setWidth 32, ty := b.setWidth 32, data := 0, start := n } := by
  obtain ⟨m, hx⟩ := execAll_setX a h
  obtain ⟨n, hy⟩ := execAll_setY b (s := { s with tx := a.setWidth 32, data := 0, start := m }) rfl
  exact ⟨n, (execAll_append hx).trans hy⟩

/-- The cursor and the target are at `(a, b)`, and nothing is drawn. -/
theorem execAll_moveTo : ∃ n, execAll (Pseudo.moveTo a b).expand s =
    .next { s with x := a.setWidth 32, y := b.setWidth 32, tx := a.setWidth 32, ty := b.setWidth 32,
                   tool := .none, data := 0, start := n } := by
  obtain ⟨n, hn⟩ := execAll_setTarget a b h
  refine ⟨n + 1 + 1, ?_⟩
  rw [Pseudo.expand, execAll_append hn, execAll, exec_eq_effectOf]
  simp only [execAll, exec_dy_zero]
  rw [drawWithTool_none rfl]
  rfl

/-- The cursor and the target are at `(a, b)`, and the block from the old cursor is drawn. -/
theorem execAll_fillTo : ∃ n, execAll (Pseudo.fillTo a b).expand s =
    .next { s with x := a.setWidth 32, y := b.setWidth 32, tx := a.setWidth 32, ty := b.setWidth 32,
                   tool := .block, data := 0, start := n,
                   events := s.events ++ [.drawBlock s.x s.y (a.setWidth 32 - s.x) (b.setWidth 32 - s.y)] } := by
  obtain ⟨n, hn⟩ := execAll_setTarget a b h
  refine ⟨n + 1 + 1, ?_⟩
  rw [Pseudo.expand, execAll_append hn, execAll, exec_eq_effectOf]
  simp only [execAll, exec_dy_zero]
  rfl

end

/-- Settles O57: the six effects. -/
theorem pseudoInstructionsMoveAndFill : Obligations.PseudoInstructionsMoveAndFill := by
  intro a b s h
  obtain ⟨_, lit⟩ := execAll_lit a h
  obtain ⟨_, setX⟩ := execAll_setX a h
  obtain ⟨_, setY⟩ := execAll_setY b h
  obtain ⟨_, colourV⟩ := execAll_colourV a h
  obtain ⟨_, moveTo⟩ := execAll_moveTo a b h
  obtain ⟨_, fillTo⟩ := execAll_fillTo a b h
  have value : (a.setWidth 32).toNat = a.toNat := BitVec.toNat_setWidth_of_le (by decide)
  refine ⟨_, _, _, _, _, _, lit, value, setX, toInt_setWidth_byte a, rfl, setY, toInt_setWidth_byte b, rfl,
    colourV, rfl, rfl, moveTo, toInt_setWidth_byte a, toInt_setWidth_byte b, rfl, rfl, rfl,
    fillTo, toInt_setWidth_byte a, toInt_setWidth_byte b, rfl, rfl, ?_⟩
  rw [BitVec.ofNat_toNat, BitVec.ofNat_toNat]

/-- The extent of a block between two byte coordinates does not wrap. -/
theorem toInt_sub_setWidth_byte (c a : Byte) :
    (c.setWidth 32 - a.setWidth 32 : Coord).toInt = (c.toNat : Int) - a.toNat := by
  rw [BitVec.toInt_sub, toInt_setWidth_byte, toInt_setWidth_byte]
  exact Int.bmod_eq_of_le (by omega) (by omega)

/-- Settles O58: the three effects one after the other. -/
theorem encoderRunFillsOneBlock : Obligations.EncoderRunFillsOneBlock := by
  intro v a b c d s h
  obtain ⟨_, colour⟩ := execAll_colourV v h
  obtain ⟨_, move⟩ := execAll_moveTo a b (s := { s with data := 0, start := _, events := _ }) rfl
  obtain ⟨_, fill⟩ := execAll_fillTo c d
    (s := { s with x := _, y := _, tx := _, ty := _, tool := _, data := 0, start := _, events := _ }) rfl
  have run := (execAll_append ((execAll_append colour).trans move)).trans fill
  refine ⟨_, run, rfl, rfl, toInt_setWidth_byte c, toInt_setWidth_byte d, _, _, _, List.append_assoc .., ?_,
    toInt_sub_setWidth_byte c a, toInt_sub_setWidth_byte d b⟩
  rw [BitVec.toNat_ofNat]
  omega

end Sys2Proof.Machine
end

section
/-! PROOFS. The decoder and the instructions (spec/40_decoder.md R90 to R97): decode and encode are inverse, what a
step of the running block does, which fields an instruction writes, the events it appends, and what moves `start`. -/

namespace Sys2Proof

open Machine

/-! ### Decode and encode (R90 to R92) -/

/-- Decoding the encoding of a well-formed instruction gives it back (R91). -/
theorem decodeByte_encode {i : Instr} (h : i.wellFormed = true) : decodeByte (encode i) = i := by
  cases i with
  | dx d => rw [encode, decodeByte_opcode0, delta_setWidth h]
  | dy d => rw [encode, decodeByte_opcode1, delta_setWidth h]
  | data f => exact decodeByte_opcode3 f
  | toolReserved c =>
    have hc : 9 ≤ c.toNat := of_decide_eq_true h
    exact (toolSubopcodeNumbers c).2 hc
  | toolNone | toolLine | toolBlock | toolColour | toolTargetX | toolTargetY | toolShow | toolPause
  | toolNextframe => decide

/-- Settles O6: the round trip instruction by instruction, and each byte's number from its two fields. -/
theorem decodeAndEncodeAgree : Obligations.DecodeAndEncodeAgree := by
  refine ⟨fun _ => decodeByte_encode, fun b => ⟨encode_decodeByte b, decodeByte_wellFormed b⟩,
    fun d => ⟨?_, ?_⟩, rfl, fun f => ⟨?_, ?_⟩⟩ <;> simp [encode, joinByte_toNat]

/-- Settles O1: operand bit 5 says on which side of 32 the operand lies, as `delta_toInt` asks. -/
theorem deltaIsTheSignExtendedOperand : Obligations.DeltaIsTheSignExtendedOperand := by
  refine ⟨fun f => ⟨delta f, decodeByte_opcode0 f, decodeByte_opcode1 f, fun h => ?_, fun h => ?_⟩, by decide⟩
  · have small : ¬ 32 ≤ f.toNat := of_decide_eq_false ((BitVec.getLsbD_last f).symm.trans h)
    rw [delta_toInt, if_pos (Nat.lt_of_not_le small)]
  · have large : 32 ≤ f.toNat := of_decide_eq_true ((BitVec.getLsbD_last f).symm.trans h)
    rw [delta_toInt, if_neg (Nat.not_lt_of_le large)]

end Sys2Proof

namespace Sys2Proof.Machine

/-! ### A step of the running block (R93, R180) -/

theorem step_of_aboutTo {i : Instr} {s : State} (h : AboutTo i s) : step s = .next (settle (effectOf i s)) := by
  obtain ⟨hp, hf, hlt, rfl⟩ := h
  have he : atEnd s = false := by simpa [atEnd] using hlt
  simp [step, hp, hf, he, fetch_of_not_atEnd he, exec_eq_effectOf, settleOutcome]

theorem step_of_running_fault {s : State} (hp : s.phase = .running) (hf : s.fault = true) :
    step s = .next (returnWith .fault s) := by
  simp [step, hp, hf]

/-- A running block that answers a next state has returned a fault, exhausted the stream, or run the instruction
at `start`. -/
theorem running_step_cases {s t : State} (hp : s.phase = .running) (h : step s = .next t) :
    (s.fault = true ∧ t = returnWith .fault s) ∨
    (s.fault = false ∧ s.streamLen ≤ s.start.toNat ∧ t = exhaust s) ∨
    (∃ i, AboutTo i s ∧ t = settle (effectOf i s)) := by
  obtain ⟨hi, -⟩ | ⟨hi, -⟩ | ⟨-, faulted⟩ | ⟨-, exhausted⟩ | instruction := step_next_cases h
  · rw [hp] at hi
    cases hi
  · rw [hp] at hi
    cases hi
  · exact .inl faulted
  · exact .inr (.inl exhausted)
  · exact .inr (.inr instruction)

/-- A read of the stream that gives a byte is below `L`, and the byte is the stream's. -/
theorem memRead_eq_ok_iff {s : State} {a : Nat} {b : Byte} :
    memRead s a = .ok b ↔ a < s.streamLen ∧ Memory.read s.stream a = b := by
  by_cases h : a < s.streamLen <;> simp [memRead, h]

/-- Settles O7: the byte read is the instruction about to run, and `settle` makes the two tests. -/
theorem stepRunsTheDecodedInstruction : Obligations.StepRunsTheDecodedInstruction := by
  intro s t b hp hf hread hexec
  obtain ⟨hlt, rfl⟩ := memRead_eq_ok_iff.1 hread
  have hstep : step s = .next (settle t) := by
    rw [effectOf_of_exec hexec]
    exact step_of_aboutTo ⟨hp, hf, hlt, rfl⟩
  rw [hstep]
  refine ⟨fun fault => ?_, fun fault frame => ?_, fun fault goesOn => ?_⟩
  · simp [settle, returnWith, fault]
  · simp [settle, returnWith, fault, frame]
  · simp [settle, fault, goesOn]

/-! ### The fields an instruction writes (R95) -/

section
variable (i : Instr) (s : State)

/-- Only DX and TARGETX write the target's x. -/
theorem effectOf_tx : (∃ d, i = .dx d) ∨ i = .toolTargetX ∨ (effectOf i s).tx = s.tx := by
  cases i with
  | dx d => exact .inl ⟨d, rfl⟩
  | toolTargetX => exact .inr (.inl rfl)
  | _ => exact .inr (.inr rfl)

/-- Only DY and TARGETY write the target's y. -/
theorem effectOf_ty : (∃ d, i = .dy d) ∨ i = .toolTargetY ∨ (effectOf i s).ty = s.ty := by
  cases i with
  | dy d => exact .inl ⟨d, rfl⟩
  | toolTargetY => exact .inr (.inl rfl)
  | _ => exact .inr (.inr rfl)

/-- Only DATA and the defined TOOLs write the accumulator. -/
theorem effectOf_data : (∃ f, i = .data f) ∨ isDefinedTool i = true ∨ (effectOf i s).data = s.data := by
  cases i with
  | data f => exact .inl ⟨f, rfl⟩
  | dx | dy | toolReserved => exact .inr (.inr rfl)
  | _ => exact .inr (.inl rfl)

/-- Every instruction but a reserved TOOL moves to the next offset (R96). -/
theorem effectOf_start : (effectOf i s).start = if isReserved i then s.start else s.start + 1 := by
  cases i <;> rfl

end

/-- Settles O22, field by field. -/
theorem fieldsChangeOnlyByTheirWriters : Obligations.FieldsChangeOnlyByTheirWriters := by
  intro i s t h
  obtain rfl := effectOf_of_exec h
  refine ⟨fun dy => ?_, fun dx targetX => ?_, fun dy targetY => ?_, fun toolNone line block => ?_,
    fun data tool => ?_, fun nextframe => ?_, fun reserved => ?_, fun unreserved => ?_,
    fun unreserved => effectOf_faultFields unreserved s, effectOf_phase i s, effectOf_reply i s,
    effectOf_launched i s, effectOf_hostMoves i s⟩
  · simpa [dy] using effectOf_cursor i s
  · simpa [dx, targetX] using effectOf_tx i s
  · simpa [dy, targetY] using effectOf_ty i s
  · simpa [toolNone, line, block] using effectOf_tool i s
  · simpa [data, tool] using effectOf_data i s
  · simpa [nextframe] using effectOf_endFlag i s
  · simp [effectOf_start, reserved]
  · simp [effectOf_start, unreserved]

/-! ### The fetch is the only access to the stream (R97) -/

/-- An instruction's effect is the same beside any other stream, which it leaves in place. -/
theorem effectOf_withStream (i : Instr) (s : State) (m : Memory) (n : Nat) :
    effectOf i { s with stream := m, streamLen := n } = { effectOf i s with stream := m, streamLen := n } := by
  cases i <;> rfl

theorem settle_withStream (s : State) (m : Memory) :
    settle { s with stream := m } = { settle s with stream := m } := by
  simp only [settle]
  split
  · rfl
  split <;> rfl

/-- Another stream with the same byte at `start` holds the same instruction there. -/
theorem aboutTo_withStream {i : Instr} {s : State} {m : Memory} (h : AboutTo i s)
    (hm : Memory.read m s.start.toNat = Memory.read s.stream s.start.toNat) : AboutTo i { s with stream := m } := by
  obtain ⟨hp, hf, hlt, hi⟩ := h
  exact ⟨hp, hf, hlt, (congrArg decodeByte hm).trans hi⟩

/-- The running block reads no byte but the one at `start`. -/
theorem step_withStream {s t : State} {m : Memory} (hp : s.phase = .running)
    (hm : Memory.read m s.start.toNat = Memory.read s.stream s.start.toNat) (h : step s = .next t) :
    step { s with stream := m } = .next { t with stream := m } := by
  obtain ⟨hf, rfl⟩ | ⟨hf, he, rfl⟩ | ⟨i, ha, rfl⟩ := running_step_cases hp h
  · exact step_of_running_fault hp hf
  · exact step_at_end hp hf he
  · have effect : effectOf i { s with stream := m } = { effectOf i s with stream := m } := by
      simpa using effectOf_withStream i s m s.streamLen
    rw [step_of_aboutTo (aboutTo_withStream ha hm), effect, settle_withStream]

/-- Settles O23: the frame of the stream, and the independence of an instruction and of a step from it. -/
theorem instructionsNeverAccessTheStream : Obligations.InstructionsNeverAccessTheStream := by
  refine ⟨fun i s t a h => ?_, fun i s t m n h => ?_, fun s t m hp hm h => step_withStream hp hm h⟩
  · obtain rfl := effectOf_of_exec h
    exact ⟨memRead_congr (effectOf_streamLen i s) (effectOf_stream i s) a, effectOf_streamLen i s⟩
  · obtain rfl := effectOf_of_exec h
    rw [exec_eq_effectOf, effectOf_withStream]

/-! ### The events of a step (R94, R187) -/

theorem drawEvents_length_le_one (s : State) : (drawEvents s).length ≤ 1 := by
  unfold drawEvents
  split <;> simp

theorem eventsOf_length_le_one (i : Instr) (s : State) : (eventsOf i s).length ≤ 1 := by
  cases i with
  | dy d => exact drawEvents_length_le_one _
  | toolColour | toolShow | toolPause => exact Nat.le_refl 1
  | _ => exact Nat.zero_le 1

/-- Only DY, COLOUR, SHOW and PAUSE emit. -/
theorem eventsOf_emitters (i : Instr) (s : State) :
    (∃ d, i = .dy d) ∨ i = .toolColour ∨ i = .toolShow ∨ i = .toolPause ∨ eventsOf i s = [] := by
  cases i with
  | dy d => exact .inl ⟨d, rfl⟩
  | toolColour => exact .inr (.inl rfl)
  | toolShow => exact .inr (.inr (.inl rfl))
  | toolPause => exact .inr (.inr (.inr (.inl rfl)))
  | _ => exact .inr (.inr (.inr (.inr rfl)))

/-- Settles O25: a step appends the events of its instruction, or none. -/
theorem atMostOneEventPerStep : Obligations.AtMostOneEventPerStep := by
  intro s t hp h
  obtain ⟨-, rfl⟩ | ⟨-, -, rfl⟩ | ⟨i, ha, rfl⟩ := running_step_cases hp h
  · exact ⟨[], by simp, by simp, fun _ _ _ _ => rfl⟩
  · exact ⟨[], by simp, by simp, fun _ _ _ _ => rfl⟩
  · refine ⟨eventsOf i s, by rw [settle_events, effectOf_events], eventsOf_length_le_one i s,
      fun dy colour present pause => ?_⟩
    obtain ⟨d, rfl⟩ | rfl | rfl | rfl | noEvent := eventsOf_emitters i s
    · exact absurd ha (dy d)
    · exact absurd ha colour
    · exact absurd ha present
    · exact absurd ha pause
    · exact noEvent

/-! ### What moves `start` (R24, R96) -/

/-- An offset below `L` is below 2^32 - 1, so the next one does not wrap. -/
theorem start_add_one_toNat {s : State} (h : MachineInv s) (hlt : s.start.toNat < s.streamLen) :
    (s.start + 1).toNat = s.start.toNat + 1 := by
  have hlen : s.streamLen ≤ 4294967295 := h.lenBound
  exact BitVec.toNat_add_of_lt (by simp; omega)

theorem hostMove_start {m : HostMove} {s t : State} (h : hostMove m s = .next t) :
    t.start = s.start ∨ (m = .reset ∧ t.start = 0) ∨
    (∃ c, m = .writeContinuation c ∧ t.start.toNat = c.start) := by
  obtain ⟨bs, -, -, -, rfl⟩ | ⟨hm, rfl⟩ | ⟨-, -, rfl⟩ | ⟨-, -, rfl⟩ | ⟨c, k, hm, hk, hc, rfl⟩ | ⟨-, r, rfl⟩ :=
    hostMove_cases h
  case inr.inl => exact .inr (.inl ⟨hm, rfl⟩)
  case inr.inr.inr.inr.inl =>
    exact .inr (.inr ⟨c, hm, congrArg ContinuationTuple.start (continuationOf_restore hk hc s)⟩)
  all_goals exact .inl rfl

/-- The causes of a moved `start`, one step. -/
theorem step_start_writers {s t : State} (hstep : step s = .next t) (hne : t.start ≠ s.start) :
    (∃ i, AboutTo i s ∧ isReserved i = false) ∨
    (s.phase = .running ∧ s.streamLen ≤ s.start.toNat ∧ t.start = 0) ∨
    (s.phase = .idle ∧ ∃ ms, s.hostMoves = .reset :: ms ∧ t.start = 0) ∨
    (s.phase = .idle ∧ ∃ c ms, s.hostMoves = .writeContinuation c :: ms ∧ t.start.toNat = c.start) := by
  obtain ⟨-, rfl⟩ | ⟨hp, m, ms, hms, hm⟩ | ⟨-, -, rfl⟩ | ⟨hp, -, he, rfl⟩ | ⟨i, ha, rfl⟩ := step_next_cases hstep
  · exact absurd rfl hne
  · obtain same | ⟨rfl, ht⟩ | ⟨c, rfl, ht⟩ := hostMove_start hm
    · exact absurd same hne
    · exact .inr (.inr (.inl ⟨hp, ms, hms, ht⟩))
    · exact .inr (.inr (.inr ⟨hp, c, ms, hms, ht⟩))
  · exact absurd rfl hne
  · exact .inr (.inl ⟨hp, he, rfl⟩)
  · refine .inl ⟨i, ha, ?_⟩
    by_contra reserved
    exact hne (by simp [effectOf_start, reserved])

/-- Settles O29: the step of an instruction that is not reserved, then the causes of a next state. -/
theorem startMovesOnlyByTheListedCauses : Obligations.StartMovesOnlyByTheListedCauses := by
  refine fun s t h hstep => ⟨fun ⟨i, ha, hi⟩ => ?_, step_start_writers hstep⟩
  obtain rfl := Host.Outcome.next.inj ((step_of_aboutTo ha).symm.trans hstep)
  obtain ⟨-, -, hlt, -⟩ := ha
  rw [settle_start, effectOf_start, hi]
  exact start_add_one_toNat h hlt

end Sys2Proof.Machine
end

section
/-! PROOFS. The cursor (spec/41_cursor.md R110 to R112): the effect of DX and of DY on the whole state, and the draw
of each tool mode. -/

namespace Sys2Proof.Machine

/-! ### DX (R110) -/

theorem exec_dx (d : Coord) (s : State) :
    exec (.dx d) s = .next { s with tx := s.tx + d, start := s.start + 1 } := rfl

theorem exec_dx_tx {d : Coord} {s t : State} (h : exec (.dx d) s = .next t) : t.tx = s.tx + d :=
  congrArg State.tx (effectOf_of_exec h)

/-- Two DX in a row add their deltas. -/
theorem execAll_dx_dx (d e : Coord) (s : State) :
    execAll [.dx d, .dx e] s = .next { s with tx := s.tx + (d + e), start := s.start + 2 } := by
  rw [← BitVec.add_assoc, show s.start + 2 = s.start + 1 + 1 from (BitVec.add_assoc s.start 1 1).symm]
  rfl

/-- Settles O8: the effect of DX, its edges and the example byte. -/
theorem dxStagesTheTarget : Obligations.DxStagesTheTarget := by
  refine ⟨decodeByte_opcode0, fun d s => ⟨_, exec_dx d s, BitVec.toInt_add .., rfl⟩, fun s => ?zero,
    fun s t edge h => ?wrap, fun s => execAll_dx_dx 31 31 s, fun s t origin h => ?sample⟩
  case zero =>
    have decoded : decodeByte 0x00 = .dx 0 := by decide
    rw [decoded, exec_dx, show s.tx + 0 = s.tx from BitVec.add_zero _]
  case wrap =>
    rw [exec_dx_tx h, BitVec.toInt_add, edge]
    rfl
  case sample =>
    have decoded : decodeByte 0x3E = .dx (-2) := by decide
    rw [decoded] at h
    rw [exec_dx_tx h, origin]
    rfl

/-! ### DY (R111, R112) -/

section
variable {s : State}

theorem drawEvents_none (h : s.tool = .none) : drawEvents s = [] := by
  rw [drawEvents, h]

theorem drawEvents_line (h : s.tool = .line) : drawEvents s = [.drawLine s.x s.y s.tx s.ty] := by
  rw [drawEvents, h]

theorem drawEvents_block (h : s.tool = .block) :
    drawEvents s = [.drawBlock s.x s.y (s.tx - s.x) (s.ty - s.y)] := by
  rw [drawEvents, h]

end

/-- The draw is of the state with the new `ty` and the old cursor; the cursor is then the target. -/
theorem exec_dy (d : Coord) (s : State) :
    exec (.dy d) s = .next { s with ty := s.ty + d, x := s.tx, y := s.ty + d, start := s.start + 1,
                                    events := s.events ++ drawEvents (setTy (s.ty + d) s) } := rfl

theorem exec_dy_ty {d : Coord} {s t : State} (h : exec (.dy d) s = .next t) : t.ty = s.ty + d :=
  congrArg State.ty (effectOf_of_exec h)

/-- Settles O9: the effect of DY with the draw of each tool mode, its edge and the example byte. -/
theorem dyDrawsThenCommits : Obligations.DyDrawsThenCommits := by
  refine ⟨decodeByte_opcode1, fun d s => ⟨_, exec_dy d s, BitVec.toInt_add .., rfl, rfl, rfl, fun noTool => ?none,
    fun line => ?line, fun block => ?block⟩, fun s t edge h => ?wrap, fun s t hx hy htx hty line h => ?sample⟩
  case none => simp [drawEvents_none, noTool]
  case line => simp [drawEvents_line, line]
  case block => simp [drawEvents_block, block]
  case wrap =>
    rw [exec_dy_ty h, BitVec.toInt_add, edge]
    rfl
  case sample =>
    have decoded : decodeByte 0x43 = .dy 3 := by decide
    rw [decoded, exec_dy] at h
    obtain rfl := Host.Outcome.next.inj h
    simp [drawEvents_line, line, hx, hy, htx, hty]

end Sys2Proof.Machine
end

section
/-! PROOFS. The TOOL instructions (spec/42_tool.md R120 to R130): the effect of each defined TOOL on the whole state,
what the nine have in common, the step that runs one, and the fault of a reserved one. -/

namespace Sys2Proof.Machine

/-! ### The effect of each TOOL (R121 to R130) -/

section
variable (s : State)

theorem exec_toolNone : exec .toolNone s = .next { s with tool := .none, data := 0, start := s.start + 1 } := rfl

theorem exec_toolLine : exec .toolLine s = .next { s with tool := .line, data := 0, start := s.start + 1 } := rfl

theorem exec_toolBlock : exec .toolBlock s = .next { s with tool := .block, data := 0, start := s.start + 1 } := rfl

theorem exec_toolColour : exec .toolColour s =
    .next { s with events := s.events ++ [.setColour s.data], data := 0, start := s.start + 1 } := rfl

/-- The accumulator's bits are the coordinate (D4). -/
theorem exec_toolTargetX : exec .toolTargetX s = .next { s with tx := s.data, data := 0, start := s.start + 1 } := rfl

theorem exec_toolTargetY : exec .toolTargetY s = .next { s with ty := s.data, data := 0, start := s.start + 1 } := rfl

theorem exec_toolShow : exec .toolShow s =
    .next { s with events := s.events ++ [.present], data := 0, start := s.start + 1 } := rfl

theorem exec_toolPause : exec .toolPause s =
    .next { s with events := s.events ++ [.pause s.data], data := 0, start := s.start + 1 } := rfl

theorem exec_toolNextframe : exec .toolNextframe s =
    .next { s with endFlag := true, data := 0, start := s.start + 1 } := rfl

theorem exec_toolReserved (c : Field6) : exec (.toolReserved c) s =
    .next { s with fault := true, faultCode := 1, faultByte := joinByte 2 c, faultAt := s.start } := rfl

end

/-! ### COLOUR (R124) -/

/-- The three copies of the byte, at bits 25:18, 17:10 and 9:2, above the two fixed bits. -/
theorem colourValue_toNat (v : Byte) : (BitVec.ofNat 32 (v.toNat * 263172 + 3)).toNat =
    v.toNat * 2 ^ 18 + v.toNat * 2 ^ 10 + v.toNat * 2 ^ 2 + 3 := by
  rw [BitVec.toNat_ofNat]
  omega

/-- Settles O12: the effect of COLOUR, then COLOURV's run for every byte and for 178, the spec's example. -/
theorem colourSendsTheAccumulator : Obligations.ColourSendsTheAccumulator := by
  refine ⟨by decide, exec_toolColour, fun v s h => ?_, fun s h => ?_⟩
  · obtain ⟨_, run⟩ := execAll_colourV v h
    exact ⟨_, _, run, rfl, colourValue_toNat v⟩
  · obtain ⟨_, run⟩ := execAll_colourV 178 h
    exact ⟨_, run, rfl, rfl⟩

/-! ### NEXTFRAME, and the invocation that it ends (R129, R180) -/

/-- The step of a NEXTFRAME returns FRAME. -/
theorem step_nextframe {s : State} (h : AboutTo .toolNextframe s) : step s =
    .next { s with endFlag := true, data := 0, start := s.start + 1, phase := .idle,
                   reply := some (.status .frame) } := by
  rw [step_of_aboutTo h]
  obtain ⟨-, hf, -, -⟩ := h
  have fault : (effectOf .toolNextframe s).fault = false := hf
  rw [settle, fault]
  rfl

/-- An invocation whose first step returns is that step. -/
theorem invoke_of_step_returns {s u : State} (hs : Ready s) (hstep : step (beginRunning (lowerEnd s)) = .next u)
    (hu : u.phase = .idle) : invoke s = .next u := by
  rw [invoke, hostRun_of_no_fault hs.2, stepBound, runInvocation, hstep]
  exact runInvocation_of_idle _ hu

/-- An invocation that begins at a NEXTFRAME runs it alone. -/
theorem invoke_nextframe {s : State} (hs : Ready s) (hlt : s.start.toNat < s.streamLen)
    (hi : instrAt s s.start.toNat = .toolNextframe) : invoke s =
    .next { s with endFlag := true, data := 0, start := s.start + 1, events := [], launched := true,
                   phase := .idle, reply := some (.status .frame) } := by
  have ha : AboutTo .toolNextframe (beginRunning (lowerEnd s)) := ⟨rfl, hs.2, hlt, hi⟩
  exact invoke_of_step_returns hs (step_nextframe ha) rfl

/-- Settles O15: the step of a NEXTFRAME, then the invocation after it. -/
theorem nextframeMarksTheBoundary : Obligations.NextframeMarksTheBoundary := by
  refine ⟨by decide, exec_toolNextframe, fun s inv ha => ?step, fun s inv ha last => ?last,
    fun s inv ha more next => ?twice⟩
  all_goals
    have hstep := step_nextframe ha
    obtain ⟨hp, hf, hlt, -⟩ := ha
    have hstart := start_add_one_toNat inv hlt
  case step => exact ⟨_, hstep, hstart, rfl, rfl, rfl, rfl⟩
  case last =>
    have reached : (s.start + 1).toNat = s.streamLen := hstart.trans last
    exact ⟨_, _, hstep, reached, rfl, invoke_at_end ⟨rfl, hf⟩ reached.ge, rfl, rfl⟩
  case twice =>
    obtain ⟨-, launched, -⟩ := inv.running hp
    rw [← hstart] at more next
    exact ⟨_, _, hstep, invoke_nextframe ⟨rfl, hf⟩ more next, rfl, by simp [launched]⟩

/-! ### A reserved TOOL (R130, R200) -/

/-- The bytes 137 to 191 carry the sub-opcodes from 9 on. -/
theorem decodeByte_reserved_range {b : Byte} (lo : 137 ≤ b.toNat) (hi : b.toNat ≤ 191) :
    ∃ c : Field6, decodeByte b = .toolReserved c ∧ 9 ≤ c.toNat := by
  obtain ⟨-, -, tool, -⟩ := opcodeRangesFixTheInstruction b
  obtain ⟨c, decoded, value, -⟩ := tool (by omega) hi
  obtain ⟨-, reserved⟩ := toolSubopcodeNumbers c
  have hc : 9 ≤ c.toNat := by omega
  exact ⟨c, by rw [decoded, ← decodeByte_opcode2, reserved hc], hc⟩

/-- The step of a reserved TOOL returns FAULT. -/
theorem step_reserved {c : Field6} {s : State} (h : AboutTo (.toolReserved c) s) : step s =
    .next { s with fault := true, faultCode := 1, faultByte := joinByte 2 c, faultAt := s.start,
                   phase := .idle, reply := some (.status .fault) } :=
  step_of_aboutTo h

/-- Settles O16: the byte recorded is the one decoded, since it carries its sub-opcode. -/
theorem reservedToolRaisesTheFault : Obligations.ReservedToolRaisesTheFault := by
  refine ⟨fun b lo hi => ?_, fun c s _ ha => ?_, fun s t hstart h => ?_⟩
  · obtain ⟨c, decoded, hc⟩ := decodeByte_reserved_range lo hi
    obtain ⟨byte, -⟩ := byte_of_decodeByte_eq_toolReserved decoded
    exact ⟨c, decoded, hc, fun s => by rw [exec_toolReserved, byte]⟩
  · have hstep := step_reserved ha
    obtain ⟨-, -, hlt, hi⟩ := ha
    obtain ⟨byte, -⟩ := byte_of_decodeByte_eq_toolReserved hi
    rw [byte] at hstep
    exact ⟨_, _, memRead_of_lt hlt, hstep, rfl⟩
  · have decoded : decodeByte 0x89 = .toolReserved 9 := by decide
    rw [decoded, exec_toolReserved] at h
    obtain rfl := Host.Outcome.next.inj h
    exact ⟨rfl, rfl, hstart, hstart⟩

/-! ### What the nine defined TOOLs have in common (R120) -/

section
variable {i : Instr} (h : isDefinedTool i = true) (s : State)
include h

/-- A defined TOOL writes no field but these. -/
theorem effectOf_definedTool_frame : effectOf i s =
    { s with tx := (effectOf i s).tx, ty := (effectOf i s).ty, tool := (effectOf i s).tool, data := 0,
             endFlag := (effectOf i s).endFlag, events := (effectOf i s).events, start := s.start + 1 } := by
  cases i with
  | dx | dy | data | toolReserved => cases h
  | _ => rfl

/-- A defined TOOL reads neither the cursor nor `start`. -/
theorem effectOf_definedTool_withCursor (a b : Coord) (p : Offset) :
    effectOf i { s with x := a, y := b, start := p } =
      { effectOf i s with x := a, y := b, start := p + 1 } := by
  cases i with
  | dx | dy | data | toolReserved => cases h
  | _ => rfl

end

/-- The five TOOLs that do not use the accumulator discard it. -/
theorem effectOf_withData {i : Instr}
    (h : i = .toolNone ∨ i = .toolLine ∨ i = .toolBlock ∨ i = .toolShow ∨ i = .toolNextframe) (s : State) (v : Acc) :
    effectOf i { s with data := v } = effectOf i s := by
  obtain rfl | rfl | rfl | rfl | rfl := h <;> rfl

/-- Settles O17: the frame of a defined TOOL, its independence of the cursor and of `start`, and the use of `data`. -/
theorem definedToolsClearData : Obligations.DefinedToolsClearData := by
  intro i s h
  have frame := effectOf_definedTool_frame h s
  refine ⟨_, exec_eq_effectOf i s, congrArg State.data frame, (congrArg State.x frame :), (congrArg State.y frame :),
    congrArg State.start frame, frame, fun a b p => ?cursor, ?colour, ?pause, ?targetX, ?targetY,
    fun unused v => ?unused⟩
  case cursor => rw [exec_eq_effectOf, effectOf_definedTool_withCursor h]
  case unused => rw [exec_eq_effectOf, effectOf_withData unused]
  all_goals
    rintro rfl
    rfl

/-! ### NONE, LINE and BLOCK, and the DY after them (R112, R121 to R123) -/

/-- A DY 0 draws with the state that the instruction before it leaves. -/
theorem execAll_then_dy_zero (i : Instr) (s : State) : ∃ t, execAll [i, .dy 0] s = .next t ∧
    t.events = (effectOf i s).events ++ drawEvents (effectOf i s) := by
  refine ⟨advance (commitCursor (drawWithTool (effectOf i s))), ?_, rfl⟩
  simp only [execAll, exec_eq_effectOf i s, exec_dy_zero]

/-- Settles O11: the three effects, and the draw of each mode. -/
theorem toolModesAreSelected : Obligations.ToolModesAreSelected := by
  refine ⟨by decide, by decide, by decide, fun s => ⟨exec_toolNone s, exec_toolLine s, exec_toolBlock s⟩,
    fun s d => ⟨_, rfl, ?none, rfl, rfl⟩, fun s => ?line, fun s hx hy htx hty => ?block⟩
  case none => exact List.append_nil s.events
  case line =>
    have draw : drawEvents (effectOf .toolLine s) = [.drawLine s.x s.y s.tx s.ty] := drawEvents_line rfl
    obtain ⟨t, run, events⟩ := execAll_then_dy_zero .toolLine s
    exact ⟨t, run, draw ▸ events⟩
  case block =>
    have draw : drawEvents (effectOf .toolBlock s) = [.drawBlock s.x s.y (s.tx - s.x) (s.ty - s.y)] :=
      drawEvents_block rfl
    rw [hx, hy, htx, hty] at draw
    obtain ⟨t, run, events⟩ := execAll_then_dy_zero .toolBlock s
    exact ⟨t, run, draw ▸ events⟩

/-! ### TARGETX and TARGETY (R125, R126) -/

theorem exec_toolTargetX_tx {s t : State} (h : exec .toolTargetX s = .next t) : t.tx = s.data :=
  congrArg State.tx (effectOf_of_exec h)

theorem exec_toolTargetY_ty {s t : State} (h : exec .toolTargetY s = .next t) : t.ty = s.data :=
  congrArg State.ty (effectOf_of_exec h)

/-- TARGETX replaces what a DX before it has staged. -/
theorem execAll_dx_toolTargetX_tx {d : Coord} {s t : State} (h : execAll [.dx d, .toolTargetX] s = .next t) :
    t.tx = s.data := by
  rw [execAll, exec_dx] at h
  obtain rfl := Host.Outcome.next.inj h
  rfl

/-- Settles O13: the effect of each, its edges, and the examples as DATA chains with the TOOL after them. -/
theorem targetsTakeTheAccumulator : Obligations.TargetsTakeTheAccumulator := by
  refine ⟨by decide, by decide,
    fun s => ⟨_, _, exec_toolTargetX s, rfl, BitVec.toInt_eq_toNat_bmod _,
      exec_toolTargetY s, rfl, BitVec.toInt_eq_toNat_bmod _⟩,
    fun s t ones h => ?_, fun s t ones h => ?_, fun s t zero h => (exec_toolTargetX_tx h).trans zero,
    fun s t zero h => (exec_toolTargetY_ty h).trans zero,
    fun d s t u ht hu => (execAll_dx_toolTargetX_tx ht).trans (exec_toolTargetX_tx hu).symm,
    fun s zero => ?_, fun s zero => ?_⟩
  · rw [exec_toolTargetX_tx h, ones]
    rfl
  · rw [exec_toolTargetY_ty h, ones]
    rfl
  · obtain ⟨_, chain⟩ := execAll_data [1, 10] s
    rw [zero] at chain
    exact ⟨_, execAll_append (js := [.toolTargetX]) chain, rfl, rfl⟩
  · obtain ⟨_, chain⟩ := execAll_data [0] s
    rw [zero] at chain
    exact ⟨_, execAll_append (js := [.toolTargetY]) chain, rfl⟩

/-! ### SHOW and PAUSE (R127, R128) -/

/-- A step neither ends the invocation nor repeats its offset, unless it runs a NEXTFRAME or a reserved TOOL. -/
theorem step_goes_on {i : Instr} {s : State} (inv : MachineInv s) (ha : AboutTo i s) (hi : isReserved i = false)
    (hn : i ≠ .toolNextframe) : step s = .next (effectOf i s) ∧ (effectOf i s).phase = .running ∧
      (effectOf i s).start.toNat = s.start.toNat + 1 := by
  have hstep := step_of_aboutTo ha
  obtain ⟨hp, hf, hlt, -⟩ := ha
  obtain ⟨noEnd, -, -⟩ := inv.running hp
  have fault : (effectOf i s).fault = false := (effectOf_faultFields hi s).1.trans hf
  have frame : (effectOf i s).endFlag = false := by simpa [hn, noEnd] using effectOf_endFlag i s
  refine ⟨by simpa [settle, fault, frame] using hstep, (effectOf_phase i s).trans hp, ?_⟩
  rw [effectOf_start, hi]
  exact start_add_one_toNat inv hlt

/-- Settles O14: the two effects, the step that goes on, and the pauses of 0 and of a DATA 7. -/
theorem showAndPauseEmit : Obligations.ShowAndPauseEmit := by
  refine ⟨by decide, by decide, fun s => ⟨exec_toolShow s, exec_toolPause s⟩, fun s t inv about hstep => ?_,
    fun s zero => ?_⟩
  · obtain ⟨i, ha, hi, hn⟩ : ∃ i, AboutTo i s ∧ isReserved i = false ∧ i ≠ .toolNextframe := by
      obtain ha | ha := about
      · exact ⟨_, ha, rfl, nofun⟩
      · exact ⟨_, ha, rfl, nofun⟩
    obtain ⟨goesOn, phase, start⟩ := step_goes_on inv ha hi hn
    obtain rfl := Host.Outcome.next.inj (goesOn.symm.trans hstep)
    exact ⟨phase, start⟩
  · obtain ⟨_, chain⟩ := execAll_data [7] s
    have pause := exec_toolPause s
    rw [zero] at chain pause
    exact ⟨_, _, pause, rfl, execAll_append (js := [.toolPause]) chain, rfl⟩

end Sys2Proof.Machine
end

section
/-! PROOFS. The accumulator (spec/43_data.md R140 to R143): the exact value of a chain of fields, the chain as the
accumulator holds it, and the DX and DY that leave it. -/

namespace Sys2Proof.Machine

/-! ### The exact value of a chain (R141, R142) -/

theorem chainValue_cons (a : Nat) (f : Field6) (fs : List Field6) :
    chainValue a (f :: fs) = chainValue (a * 64 + f.toNat) fs := rfl

/-- The fields of a chain stand below what it starts from. -/
theorem chainValue_eq_add (a : Nat) (fs : List Field6) :
    chainValue a fs = chainValue 0 fs + a * 64 ^ fs.length := by
  induction fs generalizing a with
  | nil => simp [chainValue]
  | cons f fs ih =>
    rw [chainValue_cons, chainValue_cons, ih, ih (0 * 64 + f.toNat), List.length_cons]
    ring

/-- Every field is a digit. -/
theorem chainValue_zero_lt (fs : List Field6) : chainValue 0 fs < 64 ^ fs.length := by
  induction fs with
  | nil => decide
  | cons f fs ih =>
    have digit : f.toNat * 64 ^ fs.length ≤ 63 * 64 ^ fs.length :=
      Nat.mul_le_mul_right _ (Nat.le_of_lt_succ f.isLt)
    rw [chainValue_cons, chainValue_eq_add, List.length_cons, pow_succ, Nat.zero_mul, Nat.zero_add]
    omega

/-- Five fields have 30 bits. -/
theorem chainValue_zero_lt_of_length_le {fs : List Field6} (h : fs.length ≤ 5) : chainValue 0 fs < 2 ^ 30 :=
  calc chainValue 0 fs < 64 ^ fs.length := chainValue_zero_lt fs
    _ ≤ 64 ^ 5 := Nat.pow_le_pow_right (by decide) h
    _ = 2 ^ 30 := by decide

/-- What is lost before a field is lost after it. -/
theorem chainValue_mod (a m : Nat) (fs : List Field6) : chainValue (a % m) fs % m = chainValue a fs % m := by
  rw [chainValue_eq_add, chainValue_eq_add a]
  exact ((Nat.mod_modEq a m).mul_right _).add_left _

/-! ### The chain as the accumulator holds it (R140, R141) -/

theorem foldl_shiftInField_toNat (a : Acc) (fs : List Field6) :
    (fs.foldl shiftInField a).toNat = chainValue a.toNat fs % 2 ^ 32 := by
  induction fs generalizing a with
  | nil => exact (Nat.mod_eq_of_lt a.isLt).symm
  | cons f fs ih => rw [List.foldl_cons, ih, shiftInField_toNat, chainValue_mod, chainValue_cons]

theorem exec_data (f : Field6) (s : State) :
    exec (.data f) s = .next { s with data := shiftInField s.data f, start := s.start + 1 } := rfl

theorem execAll_cons (i : Instr) (is : List Instr) (s : State) : execAll (i :: is) s = execAll is (effectOf i s) := by
  rw [execAll, exec_eq_effectOf]

/-- With no TOOL among them, the DATA fields alone decide what a run leaves in the accumulator. -/
theorem execAll_accumulates {is : List Instr} (h : ∀ i ∈ is, isDefinedTool i = false ∧ isReserved i = false)
    (s : State) : ∃ t, execAll is s = .next t ∧ t.data = (is.filterMap fieldOf).foldl shiftInField s.data := by
  induction is generalizing s with
  | nil => exact ⟨s, rfl, rfl⟩
  | cons i is ih =>
    obtain ⟨⟨notTool, notReserved⟩, rest⟩ := List.forall_mem_cons.1 h
    rw [execAll_cons]
    obtain ⟨t, run, value⟩ := ih rest (effectOf i s)
    refine ⟨t, run, ?_⟩
    cases i with
    | dx d | dy d | data f => exact value
    | toolReserved c => cases notReserved
    | _ => cases notTool

theorem execAll_data_from_zero {s : State} (zero : s.data = 0) (fs : List Field6) :
    ∃ t, execAll (fs.map .data) s = .next t ∧ t.data.toNat = chainValue 0 fs % 2 ^ 32 := by
  obtain ⟨_, run⟩ := execAll_data fs s
  rw [zero] at run
  exact ⟨_, run, foldl_shiftInField_toNat 0 fs⟩

/-- From a cleared accumulator, up to five fields lose nothing. -/
theorem execAll_data_exact {fs : List Field6} {s : State} (zero : s.data = 0) (h : fs.length ≤ 5) :
    ∃ t, execAll (fs.map .data) s = .next t ∧ t.data.toNat = chainValue 0 fs := by
  obtain ⟨t, run, value⟩ := execAll_data_from_zero zero fs
  have fits := chainValue_zero_lt_of_length_le h
  exact ⟨t, run, value.trans (Nat.mod_eq_of_lt (by omega))⟩

/-- Settles O19: the fields shifted in, in exact arithmetic. -/
theorem chainAccumulatesBase64 : Obligations.ChainAccumulatesBase64 := by
  refine ⟨fun is s h => ?_, fun fs s => execAll_data_exact, fun a fs f => ⟨rfl, chainValue_eq_add _ fs⟩⟩
  obtain ⟨t, run, value⟩ := execAll_accumulates h s
  exact ⟨t, run, value ▸ foldl_shiftInField_toNat ..⟩

/-- Settles O20: the first of six fields counts 2^30 times. -/
theorem sixFieldsOverflowTheAccumulator : Obligations.SixFieldsOverflowTheAccumulator := by
  refine ⟨fun fs => chainValue_zero_lt_of_length_le, fun fs f s zero five => ?_⟩
  obtain ⟨t, run, value⟩ := execAll_data_from_zero zero (f :: fs)
  have below := chainValue_zero_lt_of_length_le five.le
  refine ⟨t, run, ?_⟩
  rw [value, chainValue_cons, chainValue_eq_add, five]
  omega

/-- Settles O18: the effect of DATA, and its corner cases as chains. -/
theorem dataShiftsAFieldIn : Obligations.DataShiftsAFieldIn := by
  refine ⟨decodeByte_opcode3, fun f s => ⟨_, exec_data f s, rfl, shiftInField_toNat ..⟩, fun s t five h => ?shift,
    fun s zero => ?examples, fun fs s => execAll_data_exact, fun f g d s => ?unbroken⟩
  case shift =>
    rw [exec_data, five] at h
    obtain rfl := Host.Outcome.next.inj h
    rfl
  case examples =>
    obtain ⟨_, six⟩ := execAll_data [63, 63, 63, 63, 63, 63] s
    obtain ⟨_, two⟩ := execAll_data [1, 10] s
    rw [zero] at six two
    exact ⟨_, _, six, rfl, two, rfl⟩
  case unbroken =>
    obtain ⟨t, run, value⟩ := execAll_accumulates (is := [.data f, .data g]) (by simp [isDefinedTool, isReserved]) s
    obtain ⟨u, runDx, valueDx⟩ :=
      execAll_accumulates (is := [.data f, .dx d, .data g]) (by simp [isDefinedTool, isReserved]) s
    obtain ⟨v, runDy, valueDy⟩ :=
      execAll_accumulates (is := [.data f, .dy d, .data g]) (by simp [isDefinedTool, isReserved]) s
    exact ⟨t, u, v, run, runDx, runDy, valueDx.trans value.symm, valueDy.trans value.symm⟩

/-! ### DX and DY (R143) -/

/-- Settles O21: the effects of DX and DY, then the TARGETY after the unbroken chain. -/
theorem cursorInstructionsLeaveData : Obligations.CursorInstructionsLeaveData := by
  refine ⟨fun d s v => ⟨_, _, exec_dx d s, exec_dx d _, exec_dy d s, exec_dy d _, rfl, rfl⟩, fun s zero => ?_⟩
  obtain ⟨t, chain, value⟩ :=
    execAll_accumulates (is := [.data 1, .dx 3, .data 2]) (by simp [isDefinedTool, isReserved]) s
  rw [zero] at value
  exact ⟨_, execAll_append (js := [.toolTargetY]) chain, value⟩

end Sys2Proof.Machine
end

section
/-! PROOFS. The DATA field codec (spec/44_codec.md R150 to R168): the pack and unpack functions as numbers and as
bits, the five fields of any three channels, and the accumulator that a colour or a wide operand leaves. -/

namespace Sys2Proof.Machine

/-! ### Slices and concatenations, as numbers and as bits (R9) -/

theorem toNat_append_eq_add {m n : Nat} (x : BitVec m) (y : BitVec n) :
    (x ++ y).toNat = x.toNat * 2 ^ n + y.toNat := by
  rw [BitVec.toNat_append, ← Nat.shiftLeft_add_eq_or_of_lt y.isLt, Nat.shiftLeft_eq]

theorem toNat_extractLsb_eq_div_mod {n : Nat} (hi lo : Nat) (x : BitVec n) :
    (x.extractLsb hi lo).toNat = x.toNat / 2 ^ lo % 2 ^ (hi - lo + 1) := by
  rw [BitVec.extractLsb_toNat, Nat.shiftRight_eq_div_pow]

theorem getLsbD_append_low {m n k : Nat} (x : BitVec m) (y : BitVec n) (h : k < n) :
    (x ++ y).getLsbD k = y.getLsbD k := by
  rw [BitVec.getLsbD_append, if_pos h]

theorem getLsbD_append_high {m n : Nat} (x : BitVec m) (y : BitVec n) (k : Nat) :
    (x ++ y).getLsbD (n + k) = x.getLsbD k := by
  rw [BitVec.getLsbD_append, if_neg (by omega), Nat.add_sub_cancel_left]

theorem getLsbD_extractLsb_of_lt {n hi lo k : Nat} (x : BitVec n) (h : k < hi - lo + 1) :
    (x.extractLsb hi lo).getLsbD k = x.getLsbD (lo + k) := by
  rw [BitVec.getLsbD_extractLsb, decide_eq_true h, Bool.true_and]

/-! ### The pack functions (R151 to R155) -/

section
variable (v : Byte)

theorem packHigh2_toNat : (packHigh2 v).toNat = v.toNat / 64 := by
  rw [packHigh2, toNat_append_eq_add, toNat_extractLsb_eq_div_mod, BitVec.toNat_ofNat]
  omega

theorem packLow6_toNat : (packLow6 v).toNat = v.toNat % 64 := by
  rw [packLow6, toNat_extractLsb_eq_div_mod]
  omega

theorem packMid6_toNat : (packMid6 v).toNat = v.toNat / 4 := by
  rw [packMid6, toNat_extractLsb_eq_div_mod]
  omega

theorem packRotate_toNat : (packRotate v).toNat = v.toNat % 4 * 16 + v.toNat / 16 := by
  rw [packRotate, toNat_append_eq_add, toNat_extractLsb_eq_div_mod, toNat_extractLsb_eq_div_mod]
  omega

theorem packTail_toNat : (packTail v).toNat = v.toNat % 16 * 4 + 3 := by
  rw [packTail, toNat_append_eq_add, toNat_extractLsb_eq_div_mod, BitVec.toNat_ofNat]
  omega

end

/-- Settles O48: each pack as a number, and the two example bytes. -/
theorem packLayouts : Obligations.PackLayouts :=
  ⟨fun v => ⟨packHigh2_toNat v, packLow6_toNat v, packMid6_toNat v, packRotate_toNat v, packTail_toNat v⟩,
    by decide, by decide⟩

/-! ### The unpack functions (R156 to R158) -/

section
variable (hi lo : Field6)

theorem unpackA_toNat : (unpackA hi lo).toNat = hi.toNat % 4 * 64 + lo.toNat := by
  rw [unpackA, toNat_append_eq_add, toNat_extractLsb_eq_div_mod, toNat_extractLsb_eq_div_mod]
  omega

theorem unpackB_toNat : (unpackB hi lo).toNat = hi.toNat * 4 + lo.toNat / 16 := by
  rw [unpackB, toNat_append_eq_add, toNat_extractLsb_eq_div_mod, toNat_extractLsb_eq_div_mod]
  omega

theorem unpackC_toNat : (unpackC hi lo).toNat = hi.toNat % 16 * 16 + lo.toNat / 4 := by
  rw [unpackC, toNat_append_eq_add, toNat_extractLsb_eq_div_mod, toNat_extractLsb_eq_div_mod]
  omega

/-- The two parts do not overlap, so the OR of R156 is a sum. -/
theorem unpackA_toNat_shift : (unpackA hi lo).toNat = ((hi.toNat <<< 6) ||| lo.toNat) % 256 := by
  rw [unpackA_toNat, ← Nat.shiftLeft_add_eq_or_of_lt (by omega), Nat.shiftLeft_eq]
  omega

theorem unpackB_toNat_shift : (unpackB hi lo).toNat = (hi.toNat <<< 2) ||| (lo.toNat >>> 4) := by
  rw [unpackB_toNat, Nat.shiftRight_eq_div_pow, ← Nat.shiftLeft_add_eq_or_of_lt (by omega), Nat.shiftLeft_eq]

theorem unpackC_toNat_shift : (unpackC hi lo).toNat = ((hi.toNat <<< 4) ||| (lo.toNat >>> 2)) % 256 := by
  rw [unpackC_toNat, Nat.shiftRight_eq_div_pow, ← Nat.shiftLeft_add_eq_or_of_lt (by omega), Nat.shiftLeft_eq]
  omega

end

/-- Settles O49: each unpack as a sum and as a shift with OR, and the example pairs. -/
theorem unpackLayouts : Obligations.UnpackLayouts :=
  ⟨fun hi lo => ⟨unpackA_toNat hi lo, unpackA_toNat_shift hi lo, unpackB_toNat hi lo, unpackB_toNat_shift hi lo,
    unpackC_toNat hi lo, unpackC_toNat_shift hi lo⟩, by decide⟩

/-! ### The fields of any three channels (R161, R168) -/

/-- The fields that carry three channels, with `z` at the bits of `f0` and `m` at the bits of `f4` that the decoder
does not read. -/
def channelFields (c : Channels) (z : BitVec 4) (m : BitVec 2) : ColourFields where
  f0 := z ++ c.r.extractLsb 7 6
  f1 := c.r.extractLsb 5 0
  f2 := c.g.extractLsb 7 2
  f3 := c.g.extractLsb 1 0 ++ c.b.extractLsb 7 4
  f4 := c.b.extractLsb 3 0 ++ m

/-- The encoder writes one byte to all three channels, zeros above and ones below. -/
theorem colourEncode_eq_channelFields (v : Byte) : colourEncode v = channelFields ⟨v, v, v⟩ 0 3 := rfl

theorem unpackA_slices (v : Byte) (z : BitVec 4) : unpackA (z ++ v.extractLsb 7 6) (v.extractLsb 5 0) = v := by
  apply BitVec.eq_of_toNat_eq
  rw [unpackA_toNat, toNat_append_eq_add, toNat_extractLsb_eq_div_mod, toNat_extractLsb_eq_div_mod]
  omega

theorem unpackB_slices (v : Byte) (z : BitVec 4) : unpackB (v.extractLsb 7 2) (v.extractLsb 1 0 ++ z) = v := by
  apply BitVec.eq_of_toNat_eq
  rw [unpackB_toNat, toNat_append_eq_add, toNat_extractLsb_eq_div_mod, toNat_extractLsb_eq_div_mod]
  omega

theorem unpackC_slices (v : Byte) (z m : BitVec 2) :
    unpackC (z ++ v.extractLsb 7 4) (v.extractLsb 3 0 ++ m) = v := by
  apply BitVec.eq_of_toNat_eq
  rw [unpackC_toNat, toNat_append_eq_add, toNat_append_eq_add, toNat_extractLsb_eq_div_mod,
    toNat_extractLsb_eq_div_mod]
  omega

theorem colourDecode_channelFields (c : Channels) (z : BitVec 4) (m : BitVec 2) :
    colourDecode (channelFields c z m) = c := by
  rw [colourDecode, channelFields, unpackA_slices, unpackB_slices, unpackC_slices]

theorem colourDecode_colourEncode (v : Byte) : colourDecode (colourEncode v) = ⟨v, v, v⟩ := by
  rw [colourEncode_eq_channelFields, colourDecode_channelFields]

/-- Settles O50: the round trip is that of any three channels. -/
theorem colourRoundTrip : Obligations.ColourRoundTrip :=
  ⟨colourDecode_colourEncode, fun _ => rfl, fun _ _ _ _ _ => rfl, by decide, by decide, by decide⟩

/-- The decoder reads the bottom two bits of `f0` and the top four of `f4`. -/
theorem colourDecode_congr {f g : ColourFields} (h0 : f.f0.toNat % 4 = g.f0.toNat % 4) (h1 : f.f1 = g.f1)
    (h2 : f.f2 = g.f2) (h3 : f.f3 = g.f3) (h4 : f.f4.toNat / 4 = g.f4.toNat / 4) :
    colourDecode f = colourDecode g := by
  have red : unpackA f.f0 f.f1 = unpackA g.f0 g.f1 := by
    apply BitVec.eq_of_toNat_eq
    rw [unpackA_toNat, unpackA_toNat, h0, h1]
  have blue : unpackC f.f3 f.f4 = unpackC g.f3 g.f4 := by
    apply BitVec.eq_of_toNat_eq
    rw [unpackC_toNat, unpackC_toNat, h3, h4]
  rw [colourDecode, colourDecode, red, h2, blue, h3]

theorem channelFields_f0_unused (c : Channels) (z : BitVec 4) (m : BitVec 2) :
    (channelFields c z m).f0.extractLsb 5 2 = z := by
  apply BitVec.eq_of_toNat_eq
  rw [toNat_extractLsb_eq_div_mod, channelFields, toNat_append_eq_add]
  omega

theorem channelFields_f4_marker (c : Channels) (z : BitVec 4) (m : BitVec 2) :
    (channelFields c z m).f4.extractLsb 1 0 = m := by
  apply BitVec.eq_of_toNat_eq
  rw [toNat_extractLsb_eq_div_mod, channelFields, toNat_append_eq_add]
  omega

/-- Settles O51: the channels reach the decoder whatever stands at the bits it does not read. -/
theorem decodeIgnoresUnusedBits : Obligations.DecodeIgnoresUnusedBits :=
  ⟨fun _ _ => colourDecode_congr, fun c z m => ⟨channelFields c z m, channelFields_f0_unused c z m,
    channelFields_f4_marker c z m, colourDecode_channelFields c z m⟩⟩

/-! ### The bits of the channels (R162) -/

section
variable (hi lo : Field6) {k : Nat}

theorem unpackA_getLsbD_low (h : k < 6) : (unpackA hi lo).getLsbD k = lo.getLsbD k := by
  rw [unpackA, getLsbD_append_low _ _ h, getLsbD_extractLsb_of_lt _ h, Nat.zero_add]

theorem unpackA_getLsbD_high (h : k < 2) : (unpackA hi lo).getLsbD (6 + k) = hi.getLsbD k := by
  rw [unpackA, getLsbD_append_high, getLsbD_extractLsb_of_lt _ h, Nat.zero_add]

theorem unpackB_getLsbD_low (h : k < 2) : (unpackB hi lo).getLsbD k = lo.getLsbD (4 + k) := by
  rw [unpackB, getLsbD_append_low _ _ h, getLsbD_extractLsb_of_lt _ h]

theorem unpackB_getLsbD_high (h : k < 6) : (unpackB hi lo).getLsbD (2 + k) = hi.getLsbD k := by
  rw [unpackB, getLsbD_append_high, getLsbD_extractLsb_of_lt _ h, Nat.zero_add]

theorem unpackC_getLsbD_low (h : k < 4) : (unpackC hi lo).getLsbD k = lo.getLsbD (2 + k) := by
  rw [unpackC, getLsbD_append_low _ _ h, getLsbD_extractLsb_of_lt _ h]

theorem unpackC_getLsbD_high (h : k < 4) : (unpackC hi lo).getLsbD (4 + k) = hi.getLsbD k := by
  rw [unpackC, getLsbD_append_high, getLsbD_extractLsb_of_lt _ h, Nat.zero_add]

end

/-- Settles O52: the bits of each unpack, then the fixed bits of `packHigh2` and `packTail`. -/
theorem colourFieldBitMap : Obligations.ColourFieldBitMap := by
  refine ⟨fun f k => ⟨fun h => ⟨unpackA_getLsbD_high _ _ h, unpackB_getLsbD_low _ _ h⟩,
    fun h => ⟨unpackA_getLsbD_low _ _ h, unpackB_getLsbD_high _ _ h⟩,
    fun h => ⟨unpackC_getLsbD_high _ _ h, unpackC_getLsbD_low _ _ h⟩⟩, fun v => ?_⟩
  rw [colourEncode, packHigh2_toNat, packTail_toNat]
  omega

/-! ### The accumulator that a colour leaves (R164) -/

/-- `f0 << 24 | f1 << 18 | f2 << 12 | f3 << 6 | f4` (R164). -/
theorem chainValue_colour (f : ColourFields) : chainValue 0 f.toList =
    f.f0.toNat * 2 ^ 24 + f.f1.toNat * 2 ^ 18 + f.f2.toNat * 2 ^ 12 + f.f3.toNat * 2 ^ 6 + f.f4.toNat := by
  simp only [ColourFields.toList, chainValue, List.foldl]
  ring

section
variable {f : ColourFields} {d : Acc} (image : d.toNat = chainValue 0 f.toList)
include image

theorem toList_of_accumulator : f.toList =
    [d.extractLsb 29 24, d.extractLsb 23 18, d.extractLsb 17 12, d.extractLsb 11 6, d.extractLsb 5 0] := by
  rw [chainValue_colour] at image
  simp only [ColourFields.toList, List.cons.injEq, and_true]
  refine ⟨?_, ?_, ?_, ?_, ?_⟩
  all_goals
    apply BitVec.eq_of_toNat_eq
    rw [toNat_extractLsb_eq_div_mod, image]
    omega

theorem colourDecode_of_accumulator :
    colourDecode f = ⟨d.extractLsb 25 18, d.extractLsb 17 10, d.extractLsb 9 2⟩ := by
  rw [chainValue_colour] at image
  simp only [colourDecode, Channels.mk.injEq]
  refine ⟨?r, ?g, ?b⟩
  all_goals
    apply BitVec.eq_of_toNat_eq
    rw [toNat_extractLsb_eq_div_mod, image]
  case r =>
    rw [unpackA_toNat]
    omega
  case g =>
    rw [unpackB_toNat]
    omega
  case b =>
    rw [unpackC_toNat]
    omega

end

/-- Settles O53: the accumulator's value, read back at both sets of bits, then the encoder's fields. -/
theorem accumulatorHoldsTheColour : Obligations.AccumulatorHoldsTheColour := by
  refine ⟨fun f s zero => ?_, fun v s zero => ?_⟩
  · obtain ⟨t, run, image⟩ := execAll_data_exact (fs := f.toList) zero le_rfl
    exact ⟨t, run, image.trans (chainValue_colour f), toList_of_accumulator image,
      colourDecode_of_accumulator image⟩
  · obtain ⟨_, run⟩ := execAll_data (colourEncode v).toList s
    rw [zero, colourEncode_accumulates] at run
    refine ⟨_, run, colourValue_toNat v, ?_, ?_⟩
    all_goals
      rintro rfl
      rfl

/-! ### The wide operand (R165, R166) -/

theorem wideEncode_of_lt {w : Byte} (h : w.toNat < 64) : wideEncode w = [packLow6 w] := if_pos h

theorem wideEncode_of_le {w : Byte} (h : 64 ≤ w.toNat) : wideEncode w = [packHigh2 w, packLow6 w] :=
  if_neg h.not_gt

/-- Settles O54: the two forms, the examples, and the targets after the DATA chain. -/
theorem wideOperandsReachTheTarget : Obligations.WideOperandsReachTheTarget := by
  refine ⟨fun w => ⟨fun h => ?_, wideEncode_of_le⟩, by decide, by decide, by decide, fun w s zero => ?_,
    fun w => unpackA_slices w 0⟩
  · rw [wideEncode_of_lt h, List.map_singleton, packLow6_toNat, Nat.mod_eq_of_lt h]
  · obtain ⟨_, run⟩ := execAll_lit w zero
    exact ⟨_, _, _, run, BitVec.toNat_setWidth_of_le (by decide), exec_toolTargetX _, toInt_setWidth_byte w,
      exec_toolTargetY _, toInt_setWidth_byte w⟩

/-! ### The ports (R167) -/

theorem dataByte_eq_or : ∀ f : Field6, dataByte f = 0xC0 ||| f.setWidth 8 := by decide

theorem widePorts_of_lt {w : Byte} (h : w.toNat < 64) : widePorts w = ⟨1, packLow6 w, 0⟩ := by
  rw [widePorts, wideEncode_of_lt h]
  rfl

theorem widePorts_of_le {w : Byte} (h : 64 ≤ w.toNat) : widePorts w = ⟨2, packHigh2 w, packLow6 w⟩ := by
  rw [widePorts, wideEncode_of_le h]
  rfl

/-- Settles O55: the DATA bytes of the encode ports, then the two forms of the wide ports. -/
theorem codecPorts : Obligations.CodecPorts := by
  refine ⟨fun v => ⟨rfl, ?_⟩, fun f => ⟨rfl, rfl, rfl⟩, fun w => ⟨fun h => ?_, widePorts_of_le⟩, decodeByte_opcode3⟩
  · simp only [← dataByte_eq_or]
    rfl
  · rw [widePorts_of_lt h]
    exact ⟨rfl, (packLow6_toNat w).trans (Nat.mod_eq_of_lt h), rfl⟩

end Sys2Proof.Machine
end

section
/-! PROOFS. The session (spec/45_session.md R180 to R190): the host's moves on an idle block, what a running block
does until it returns, and whole invocations. -/

namespace Sys2Proof.Machine

/-! ### The host's moves (R180, R188) -/

theorem hostRun_of_fault {s : State} (hf : s.fault = true) : hostRun s = refuseFaulted s := if_pos hf

/-- Settles O39: the two branches of Run. -/
theorem runClearsEndAndBegins : Obligations.RunClearsEndAndBegins := by
  intro s
  refine ⟨_, rfl, fun hf => ?_, fun hf => ?_⟩
  · rw [hostRun_of_no_fault hf]
    rfl
  · rw [hostRun_of_fault hf]
    rfl

/-- Settles O59: the two moves, then the status that a reserved TOOL's step leaves. -/
theorem faultStatusIsReadAndStopDoesNothing : Obligations.FaultStatusIsReadAndStopDoesNothing := by
  refine ⟨fun s => rfl, fun s => rfl, fun c s hc ha => ?_⟩
  obtain ⟨-, raises, -⟩ := reservedToolRaisesTheFault
  obtain ⟨t, b, hread, hstep, rfl⟩ := raises c s hc ha
  exact ⟨_, _, b, hread, hstep, rfl, rfl, rfl, rfl⟩

theorem hostLoad_fits {bytes : List Byte} {s : State} (hl : s.launched = false)
    (hlen : bytes.length ≤ Config.maxStreamLen) :
    hostMove (.load bytes) s = .next (answer none (setStream bytes s)) := by
  simp [hostMove, hostLoad, hl, hlen]

/-- A loaded stream gives, below its length, the bytes loaded. -/
theorem memRead_setStream {bytes : List Byte} {a : Nat} (h : a < bytes.length) (s : State) :
    memRead (setStream bytes s) a = .ok bytes[a] := by
  refine memRead_eq_ok_iff.2 ⟨h, ?_⟩
  rw [setStream_stream, memory_read_ofBytes bytes 0 a (Nat.zero_le a), Nat.sub_zero, List.getD_eq_getElem _ _ h]

theorem memRead_of_le {s : State} {a : Nat} (h : s.streamLen ≤ a) : memRead s a = .error .readOutsideStream :=
  if_neg (Nat.not_lt_of_le h)

/-- Settles O36: the load that is taken, and the two refusals. -/
theorem loadedBytesAreFetched : Obligations.LoadedBytesAreFetched := by
  refine ⟨fun bytes s hl hlen => ?_, fun bytes s hl => ?_, fun bytes s hl hlen => ?_⟩
  · exact ⟨_, hostLoad_fits hl hlen, rfl, memory_ofBytes_wf bytes 0, fun a h => memRead_setStream h s,
      fun a h => memRead_of_le h, rfl, rfl, rfl, rfl, rfl, rfl, rfl, rfl, rfl, rfl, rfl, rfl, rfl⟩
  · simp [hostMove, hostLoad, hl]
  · simp [hostMove, hostLoad, hl, Config.maxStreamLen, hlen]

/-! ### A faulted block (R185) -/

theorem invoke_of_fault {s : State} (hp : s.phase = .idle) (hf : s.fault = true) :
    invoke s = .next (refuseFaulted s) := by
  rw [invoke, hostRun_of_fault hf]
  exact runInvocation_of_idle _ hp

theorem playback_succ {s t : State} (h : invoke s = .next t) (n : Nat) :
    playback (n + 1) s = ((t.reply, t.events) :: (playback n t).1, (playback n t).2) := by
  simp [playback, h]

/-- Invocations of a faulted block, one after the other. -/
theorem playback_of_fault (n : Nat) {s : State} (hp : s.phase = .idle) (hf : s.fault = true) :
    (playback n s).1 = List.replicate n (some (.status .fault), []) ∧ (playback n s).2.fault = true ∧
      (playback n s).2.start = s.start := by
  induction n generalizing s with
  | zero => exact ⟨rfl, hf, rfl⟩
  | succ n ih =>
    obtain ⟨shown, fault, start⟩ := ih (s := refuseFaulted s) hp hf
    rw [playback_succ (invoke_of_fault hp hf), shown]
    exact ⟨rfl, fault, start⟩

/-- Settles O44: one invocation of a faulted block, `n` of them, and the Reset that ends it. -/
theorem faultedBlockRunsNothing : Obligations.FaultedBlockRunsNothing :=
  ⟨fun _ hp hf => ⟨_, invoke_of_fault hp hf, rfl⟩, fun n _ hp hf => playback_of_fault n hp hf,
    fun _ _ => ⟨_, rfl, rfl, rfl⟩⟩

/-! ### Exhaustion and the frame boundary (R182, R183) -/

/-- Settles O40: the exhausting step, an invocation at the end of the stream, and one after a last NEXTFRAME. -/
theorem exhaustionReturnsToTheInitialState : Obligations.ExhaustionReturnsToTheInitialState := by
  refine ⟨fun s hp hf he => ⟨_, step_at_end hp hf he, rfl⟩, fun s hs he => ?_, fun s inv ha last => ?_⟩
  · have he : s.streamLen ≤ s.start.toNat := he.elim id fun empty => empty ▸ Nat.zero_le _
    exact ⟨_, invoke_at_end hs he, rfl, rfl⟩
  · obtain ⟨-, -, -, lastNextframe, -⟩ := nextframeMarksTheBoundary
    obtain ⟨t, u, hstep, -, -, hinvoke, reply, events⟩ := lastNextframe s inv ha last
    exact ⟨t, u, hstep, hinvoke, reply, events⟩

theorem AboutTo.start_lt {i : Instr} {s : State} (h : AboutTo i s) : s.start.toNat < s.streamLen := by
  obtain ⟨-, -, hlt, -⟩ := h
  exact hlt

/-- Settles O42: of the writers of `end` only NEXTFRAME sets it while the block runs. -/
theorem frameSuspensionKeepsTheState : Obligations.FrameSuspensionKeepsTheState := by
  intro s t inv hp hstep set
  obtain ⟨clear, -⟩ := inv.running hp
  obtain ⟨ha, -⟩ | ⟨-, -, lowered⟩ | ⟨idle, -⟩ | ⟨idle, -⟩ := step_endFlag_writers hstep (by simp [set, clear])
  · obtain rfl := Host.Outcome.next.inj ((step_nextframe ha).symm.trans hstep)
    exact ⟨ha, start_add_one_toNat inv ha.start_lt, rfl⟩
  · simp [set] at lowered
  · simp [hp] at idle
  · simp [hp] at idle

/-! ### One step of a running invocation (R180, R189) -/

theorem MachineInv.no_fault_of_running {s : State} (inv : MachineInv s) (hp : s.phase = .running) :
    s.fault = false := by
  by_contra h
  obtain ⟨idle, -⟩ := inv.faultSet (by simpa using h)
  simp [hp] at idle

theorem step_of_running (s : State) (hp : s.phase = .running) : ∃ t, step s = .next t := by
  obtain next | ⟨-, -, idle, -⟩ := step_next_or_refused s
  · exact next
  · simp [hp] at idle

/-- `a` is below `L`, and the instruction there does not end an invocation. -/
def GoesOnAt (s : State) (a : Nat) : Prop :=
  a < s.streamLen ∧ isReserved (instrAt s a) = false ∧ instrAt s a ≠ .toolNextframe

/-- What a step of a running invocation did: it exhausted the stream, ran a NEXTFRAME or a reserved TOOL and
returned, or ran another instruction and went on at the next offset. -/
theorem invocation_step_cases {s t : State} (inv : MachineInv s) (hp : s.phase = .running)
    (h : step s = .next t) :
    (s.streamLen ≤ s.start.toNat ∧ t = exhaust s) ∨
    (AboutTo .toolNextframe s ∧ t = returnWith .frame (effectOf .toolNextframe s)) ∨
    (∃ c, AboutTo (.toolReserved c) s ∧ t = returnWith .fault (effectOf (.toolReserved c) s)) ∨
    (GoesOnAt s s.start.toNat ∧ t.phase = .running ∧ t.start.toNat = s.start.toNat + 1) := by
  obtain ⟨fault, -⟩ | ⟨-, exhausted⟩ | ⟨i, ha, -⟩ := running_step_cases hp h
  · simp [inv.no_fault_of_running hp] at fault
  · exact .inl exhausted
  · by_cases frame : i = .toolNextframe
    · subst frame
      exact .inr (.inl ⟨ha, Host.Outcome.next.inj (h.symm.trans (step_nextframe ha))⟩)
    cases reserved : isReserved i with
    | true =>
      obtain ⟨c, rfl⟩ := eq_toolReserved_of_isReserved reserved
      exact .inr (.inr (.inl ⟨c, ha, Host.Outcome.next.inj (h.symm.trans (step_reserved ha))⟩))
    | false =>
      obtain ⟨goesOn, phase, start⟩ := step_goes_on inv ha reserved frame
      obtain rfl := Host.Outcome.next.inj (goesOn.symm.trans h)
      obtain ⟨-, -, hlt, rfl⟩ := ha
      exact .inr (.inr (.inr ⟨⟨hlt, reserved, frame⟩, phase, start⟩))

/-- A step of a running invocation returns, or goes on at the next offset (R189). -/
theorem invocation_step_returns_or_goes_on {s t : State} (inv : MachineInv s) (hp : s.phase = .running)
    (h : step s = .next t) :
    t.phase = .idle ∨ (GoesOnAt s s.start.toNat ∧ t.phase = .running ∧ t.start.toNat = s.start.toNat + 1) := by
  obtain ⟨-, rfl⟩ | ⟨-, rfl⟩ | ⟨c, -, rfl⟩ | goesOn := invocation_step_cases inv hp h
  · exact .inl rfl
  · exact .inl rfl
  · exact .inl rfl
  · exact .inr goesOn

/-! ### The stream along an invocation (R58, R188) -/

/-- `t` has the stream of `s` and its pending moves, whatever the launch bit, which the first Run sets. -/
structure SameProgram (s t : State) : Prop where
  stream : t.stream = s.stream
  streamLen : t.streamLen = s.streamLen
  hostMoves : t.hostMoves = s.hostMoves

theorem SameProgram.trans {s t u : State} (h : SameProgram s t) (k : SameProgram t u) : SameProgram s u :=
  ⟨k.stream.trans h.stream, k.streamLen.trans h.streamLen, k.hostMoves.trans h.hostMoves⟩

theorem SameProgram.instrAt_eq {s t : State} (h : SameProgram s t) (a : Nat) : instrAt t a = instrAt s a := by
  rw [instrAt, instrAt, h.stream]

theorem SameProgram.goesOnAt {s t : State} (h : SameProgram s t) {a : Nat} (k : GoesOnAt t a) : GoesOnAt s a := by
  rwa [GoesOnAt, h.instrAt_eq, h.streamLen] at k

theorem running_step_sameProgram {s t : State} (hp : s.phase = .running) (h : step s = .next t) :
    SameProgram s t := by
  obtain ⟨-, rfl⟩ | ⟨-, -, rfl⟩ | ⟨i, -, rfl⟩ := running_step_cases hp h
  · exact ⟨rfl, rfl, rfl⟩
  · exact ⟨rfl, rfl, rfl⟩
  · exact ⟨by simp, by simp, by simp⟩

theorem hostRun_sameProgram (s : State) : SameProgram s (hostRun s) := by
  unfold hostRun
  split <;> exact ⟨rfl, rfl, rfl⟩

/-! ### The states an invocation passes through (R180, R189) -/

/-- An invocation that began or was running in `s` is running in `u`, and the offsets between are those it has
run. -/
structure RunsTo (s u : State) : Prop where
  inv : MachineInv u
  running : u.phase = .running
  same : SameProgram s u
  le : s.start.toNat ≤ u.start.toNat
  passed : ∀ a, s.start.toNat ≤ a → a < u.start.toNat → GoesOnAt s a

theorem RunsTo.refl {s : State} (inv : MachineInv s) (hp : s.phase = .running) : RunsTo s s where
  inv := inv
  running := hp
  same := ⟨rfl, rfl, rfl⟩
  le := Nat.le_refl _
  passed _ hle hlt := absurd hlt (Nat.not_lt_of_le hle)

/-- The offset of a step that goes on, before those that come after it. -/
theorem RunsTo.head {s t u : State} (same : SameProgram s t) (start : t.start.toNat = s.start.toNat + 1)
    (here : GoesOnAt s s.start.toNat) (h : RunsTo t u) : RunsTo s u where
  inv := h.inv
  running := h.running
  same := same.trans h.same
  le := by have := h.le; omega
  passed a hle hlt := by
    obtain rfl | hlt' := Nat.eq_or_lt_of_le hle
    · exact here
    · exact same.goesOnAt (h.passed a (by omega) hlt)

/-- `n` steps of a running invocation: it has returned, by the step of a state it ran to, or it is still running,
`n` offsets on. -/
theorem runInvocation_progress (n : Nat) {s : State} (inv : MachineInv s) (hp : s.phase = .running) :
    ∃ t, runInvocation n s = .next t ∧
      ((t.phase = .idle ∧ ∃ u, RunsTo s u ∧ step u = .next t) ∨
        (RunsTo s t ∧ t.start.toNat = s.start.toNat + n)) := by
  induction n generalizing s with
  | zero => exact ⟨s, rfl, .inr ⟨.refl inv hp, rfl⟩⟩
  | succ n ih =>
    obtain ⟨t, hstep⟩ := step_of_running s hp
    have unroll : runInvocation (n + 1) s = runInvocation n t := by simp [runInvocation, hp, hstep]
    rw [unroll]
    obtain idle | ⟨here, phase, start⟩ := invocation_step_returns_or_goes_on inv hp hstep
    · exact ⟨t, runInvocation_of_idle n idle, .inl ⟨idle, s, .refl inv hp, hstep⟩⟩
    · have same := running_step_sameProgram hp hstep
      obtain ⟨v, hv, ⟨idle, u, hu, last⟩ | ⟨hv', far⟩⟩ := ih (stepKeepsTheInvariant s t inv hstep) phase
      · exact ⟨v, hv, .inl ⟨idle, u, hu.head same start here, last⟩⟩
      · exact ⟨v, hv, .inr ⟨hv'.head same start here, by omega⟩⟩

/-- An invocation that is still running has run offsets below `L` only. -/
theorem RunsTo.start_le {s u : State} (h : RunsTo s u) (hlt : s.start.toNat < u.start.toNat) :
    u.start.toNat ≤ s.streamLen := by
  obtain ⟨below, -⟩ := h.passed (u.start.toNat - 1) (by omega) (by omega)
  omega

/-- A running invocation returns within its bound, by the step of a state it ran to. -/
theorem runInvocation_stepBound {s : State} (inv : MachineInv s) (hp : s.phase = .running) :
    ∃ u t, RunsTo s u ∧ step u = .next t ∧ t.phase = .idle ∧ runInvocation (stepBound s) s = .next t := by
  obtain ⟨t, ht, ⟨idle, u, hu, last⟩ | ⟨ran, far⟩⟩ := runInvocation_progress (stepBound s) inv hp
  · exact ⟨u, t, hu, last, idle, ht⟩
  · rw [stepBound] at far
    have := ran.start_le (by omega)
    omega

/-! ### Whole invocations (R181, R184, R189) -/

theorem hostRun_inv {s : State} (inv : MachineInv s) (hp : s.phase = .idle) : MachineInv (hostRun s) :=
  hostMove_keeps_inv (m := .run) inv hp rfl

theorem hostRun_running {s : State} (hs : Ready s) : (hostRun s).phase = .running := by
  rw [hostRun_of_no_fault hs.2]
  rfl

@[simp] theorem hostRun_start (s : State) : (hostRun s).start = s.start := by
  unfold hostRun
  split <;> rfl

/-- What an invocation has run after Run, it has run from the state before. -/
theorem RunsTo.of_hostRun {s u : State} (h : RunsTo (hostRun s) u) : RunsTo s u where
  inv := h.inv
  running := h.running
  same := (hostRun_sameProgram s).trans h.same
  le := hostRun_start s ▸ h.le
  passed a hle hlt := (hostRun_sameProgram s).goesOnAt (h.passed a ((hostRun_start s).symm ▸ hle) hlt)

/-- An invocation of a block that has not faulted runs to a state whose step returns. -/
theorem invoke_returns {s : State} (inv : MachineInv s) (hs : Ready s) :
    ∃ u t, RunsTo s u ∧ step u = .next t ∧ t.phase = .idle ∧ invoke s = .next t := by
  obtain ⟨u, t, ran, returns⟩ := runInvocation_stepBound (hostRun_inv inv hs.1) (hostRun_running hs)
  exact ⟨u, t, ran.of_hostRun, returns⟩

/-- What the step that ends an invocation leaves (R181). -/
theorem returning_step_cases {u t : State} (inv : MachineInv u) (hp : u.phase = .running) (h : step u = .next t)
    (idle : t.phase = .idle) :
    (u.streamLen ≤ u.start.toNat ∧ t = exhaust u) ∨
    (AboutTo .toolNextframe u ∧ t = returnWith .frame (effectOf .toolNextframe u)) ∨
    (∃ c, AboutTo (.toolReserved c) u ∧ t = returnWith .fault (effectOf (.toolReserved c) u)) := by
  obtain exhausted | frame | fault | ⟨-, running, -⟩ := invocation_step_cases inv hp h
  · exact .inl exhausted
  · exact .inr (.inl frame)
  · exact .inr (.inr fault)
  · simp [idle] at running

/-- The record that exhaustion leaves is the initial one, once the fault fields are clear. -/
theorem exhaust_initial {s : State} (inv : MachineInv s) (hp : s.phase = .running) : Initial (exhaust s) := by
  have fault := inv.no_fault_of_running hp
  obtain ⟨code, byte, offset⟩ := inv.faultClear fault
  exact ⟨rfl, rfl, rfl, rfl, rfl, rfl, rfl, rfl, fault, code, byte, offset, rfl⟩

/-- Settles O45: a faulted block answers at once, and any other by the step that ends its invocation. -/
theorem invocationEndsInOneOfThreeWays : Obligations.InvocationEndsInOneOfThreeWays := by
  intro s inv hp
  cases hf : s.fault with
  | true => exact ⟨_, invoke_of_fault hp hf, hp, .inr (.inr ⟨rfl, hf, .inl rfl⟩)⟩
  | false =>
    obtain ⟨u, t, ran, hstep, idle, hinvoke⟩ := invoke_returns inv ⟨hp, hf⟩
    refine ⟨t, hinvoke, idle, ?_⟩
    obtain ⟨-, rfl⟩ | ⟨ha, rfl⟩ | ⟨c, ⟨-, -, -, hi⟩, rfl⟩ := returning_step_cases ran.inv ran.running hstep idle
    · exact .inr (.inl ⟨rfl, exhaust_initial ran.inv ran.running⟩)
    · obtain ⟨-, fault, hlt, hi⟩ := ha
      have start : (u.start + 1).toNat = u.start.toNat + 1 := start_add_one_toNat ran.inv hlt
      refine .inl ⟨rfl, fault, rfl, ?_, ?_, ?_⟩
      · exact start ▸ Nat.succ_pos _
      · exact start ▸ hlt
      · exact (congrArg (fun a => instrAt u (a - 1)) start).trans hi
    · exact .inr (.inr ⟨rfl, rfl, .inr ⟨rfl, (congrArg isReserved hi :)⟩⟩)

/-- Settles O43: Run keeps `start`, and an invocation that is still running is ahead of it. -/
theorem resumeContinuesAtStart : Obligations.ResumeContinuesAtStart := by
  intro s inv hs hlt
  refine ⟨⟨_, rfl, ?_, hostRun_start s, ?_⟩, fun k t u hrun hu running => ?_⟩
  · rw [hostRun_of_no_fault hs.2]
    rfl
  · rw [hostRun_of_no_fault hs.2]
    exact ⟨rfl, hs.2, hlt, rfl⟩
  · obtain rfl := Host.Outcome.next.inj hrun
    obtain ⟨v, hv, ⟨idle, -⟩ | ⟨-, far⟩⟩ := runInvocation_progress k (hostRun_inv inv hs.1) (hostRun_running hs)
    all_goals obtain rfl := Host.Outcome.next.inj (hu.symm.trans hv)
    · simp [running] at idle
    · simp at far
      omega

/-- An invocation whose offsets from `start` on hold no NEXTFRAME and no reserved byte exhausts the stream. -/
theorem invoke_exhausts {s : State} (inv : MachineInv s) (hs : Ready s)
    (h : ∀ a, s.start.toNat ≤ a → a < s.streamLen → instrAt s a ≠ .toolNextframe ∧ isReserved (instrAt s a) = false) :
    ∃ t, invoke s = .next t ∧ t.reply = some (.status .exhausted) := by
  obtain ⟨u, t, ran, hstep, idle, hinvoke⟩ := invoke_returns inv hs
  have here (hlt : u.start.toNat < u.streamLen) :
      instrAt u u.start.toNat ≠ .toolNextframe ∧ isReserved (instrAt u u.start.toNat) = false := by
    rw [ran.same.instrAt_eq]
    exact h _ ran.le (ran.same.streamLen ▸ hlt)
  obtain ⟨-, rfl⟩ | ⟨⟨-, -, hlt, hi⟩, -⟩ | ⟨c, ⟨-, -, hlt, hi⟩, -⟩ :=
    returning_step_cases ran.inv ran.running hstep idle
  · exact ⟨_, hinvoke, rfl⟩
  · exact absurd hi (here hlt).1
  · simpa [hi, isReserved] using (here hlt).2

/-- From below `L`, as many steps as bytes are left end the invocation or reach the end of the stream. -/
theorem runInvocation_bytes_left {s : State} (inv : MachineInv s) (hp : s.phase = .running)
    (hlt : s.start.toNat < s.streamLen) : ∃ t, runInvocation (s.streamLen - s.start.toNat) s = .next t ∧
      (t.phase = .idle ∨ (t.phase = .running ∧ t.start.toNat = t.streamLen ∧
        ∃ u, step t = .next u ∧ u.phase = .idle)) := by
  obtain ⟨t, ht, ⟨idle, -⟩ | ⟨ran, far⟩⟩ := runInvocation_progress (s.streamLen - s.start.toNat) inv hp
  · exact ⟨t, ht, .inl idle⟩
  · have reached : t.start.toNat = t.streamLen := by
      rw [ran.same.streamLen]
      omega
    have exhausts := step_at_end ran.running (ran.inv.no_fault_of_running ran.running) reached.ge
    exact ⟨t, ht, .inr ⟨ran.running, reached, _, exhausts, rfl⟩⟩

/-- Settles O46: at the end of the stream the bound is one step; before it, each step returns or goes on. -/
theorem everyInvocationEnds : Obligations.EveryInvocationEnds := by
  refine ⟨fun s hs he => ?_, fun s inv hp hlt => ?_, fun s t inv hp hstep => ?_, fun _ => invoke_exhausts⟩
  · have bound : stepBound (hostRun s) = 1 := by simp [stepBound, (hostRun_sameProgram s).streamLen, he]
    have hinvoke := invoke_at_end hs he
    exact ⟨_, hinvoke, by rwa [invoke, bound] at hinvoke, rfl⟩
  · obtain ⟨t, ht, ends⟩ := runInvocation_bytes_left inv hp hlt
    exact ⟨_, t, Nat.le_refl _, ht, ends⟩
  · exact (invocation_step_returns_or_goes_on inv hp hstep).imp_right fun ⟨_, _, start⟩ => start

/-! ### Counting the NEXTFRAMEs of the stream (R190) -/

theorem countNextframes_mono (s : State) : Monotone (countNextframes s) :=
  monotone_nat_of_le_succ fun _ => Nat.le_add_right _ _

theorem SameProgram.countNextframes_eq {s t : State} (h : SameProgram s t) (n : Nat) :
    countNextframes t n = countNextframes s n := by
  induction n with
  | zero => rfl
  | succ n ih => rw [countNextframes, countNextframes, ih, h.instrAt_eq]

/-- An invocation passes no NEXTFRAME before the one that ends it. -/
theorem RunsTo.countNextframes_eq {s u : State} (h : RunsTo s u) {b : Nat} (hle : s.start.toNat ≤ b)
    (hb : b ≤ u.start.toNat) : countNextframes s b = countNextframes s s.start.toNat := by
  induction b, hle using Nat.le_induction with
  | base => rfl
  | succ b hle ih =>
    obtain ⟨-, -, frame⟩ := h.passed b hle hb
    rw [countNextframes, if_neg frame, ih (Nat.le_of_succ_le hb)]
    rfl

/-! ### Looping playback (R190) -/

/-- The block can be invoked, its stream has no reserved byte, and `m` NEXTFRAMEs are left from `start` on. -/
structure FramesLeft (m : Nat) (s : State) : Prop where
  inv : MachineInv s
  ready : Ready s
  start_le : s.start.toNat ≤ s.streamLen
  unreserved : ∀ a, a < s.streamLen → isReserved (instrAt s a) = false
  count : countNextframes s s.streamLen = countNextframes s s.start.toNat + m

/-- The invocation that ends at a NEXTFRAME leaves one frame fewer. -/
theorem FramesLeft.after_nextframe {m : Nat} {s u t : State} (h : FramesLeft m s) (ran : RunsTo s u)
    (ha : AboutTo .toolNextframe u) (hstep : step u = .next t) : ∃ k, m = k + 1 ∧ FramesLeft k t := by
  have same := ran.same.trans (running_step_sameProgram ran.running hstep)
  have inv := stepKeepsTheInvariant u t ran.inv hstep
  obtain rfl := Host.Outcome.next.inj ((step_nextframe ha).symm.trans hstep)
  obtain ⟨-, fault, hlt, hi⟩ := ha
  have start : (u.start + 1).toNat = u.start.toNat + 1 := start_add_one_toNat ran.inv hlt
  rw [ran.same.streamLen] at hlt
  rw [ran.same.instrAt_eq] at hi
  have counted : countNextframes s (u.start + 1).toNat = countNextframes s s.start.toNat + 1 := by
    rw [start, countNextframes, if_pos hi, ran.countNextframes_eq ran.le (Nat.le_refl _)]
  have left := h.count
  have within := countNextframes_mono s (Nat.succ_le_of_lt hlt)
  rw [Nat.succ_eq_add_one, ← start, counted] at within
  refine ⟨m - 1, by omega, inv, ⟨rfl, fault⟩, ?_, fun a below => ?_, ?_⟩
  · exact (start.trans_le hlt).trans_eq same.streamLen.symm
  · rw [same.instrAt_eq]
    exact h.unreserved a (same.streamLen ▸ below)
  · rw [same.countNextframes_eq, same.countNextframes_eq, same.streamLen, counted]
    omega

/-- One invocation of a playback: with no NEXTFRAME left it exhausts the stream, else it shows one frame. -/
theorem FramesLeft.invoke_cases {m : Nat} {s : State} (h : FramesLeft m s) :
    ∃ t, invoke s = .next t ∧ SameProgram s t ∧
      ((m = 0 ∧ t.reply = some (.status .exhausted) ∧ Initial t) ∨
        (∃ k, m = k + 1 ∧ t.reply = some (.status .frame) ∧ FramesLeft k t)) := by
  obtain ⟨u, t, ran, hstep, idle, hinvoke⟩ := invoke_returns h.inv h.ready
  refine ⟨t, hinvoke, ran.same.trans (running_step_sameProgram ran.running hstep), ?_⟩
  obtain ⟨he, rfl⟩ | ⟨ha, rfl⟩ | ⟨c, ⟨-, -, hlt, hi⟩, -⟩ := returning_step_cases ran.inv ran.running hstep idle
  · have noFrames : countNextframes s s.streamLen = countNextframes s s.start.toNat :=
      ran.countNextframes_eq h.start_le (ran.same.streamLen ▸ he)
    have left := h.count
    exact .inl ⟨by omega, rfl, exhaust_initial ran.inv ran.running⟩
  · obtain ⟨k, hk, frames⟩ := h.after_nextframe ran ha hstep
    exact .inr ⟨k, hk, rfl, frames⟩
  · have unreserved := h.unreserved _ (ran.same.streamLen ▸ hlt)
    rw [← ran.same.instrAt_eq, hi] at unreserved
    cases unreserved

/-- From `m` NEXTFRAMEs before the end of the stream, `m` frames and the exhausting invocation. -/
theorem FramesLeft.playback_ends {m : Nat} {s : State} (h : FramesLeft m s) :
    (playback (m + 1) s).1.map Prod.fst =
        List.replicate m (some (.status .frame)) ++ [some (.status .exhausted)] ∧
      Initial (playback (m + 1) s).2 ∧ SameProgram s (playback (m + 1) s).2 := by
  induction m generalizing s with
  | zero =>
    obtain ⟨t, hinvoke, same, ⟨-, reply, initial⟩ | ⟨k, hk, -⟩⟩ := h.invoke_cases
    · rw [playback_succ hinvoke]
      exact ⟨congrArg (fun r => [r]) reply, initial, same⟩
    · cases hk
  | succ m ih =>
    obtain ⟨t, hinvoke, same, ⟨hm, -⟩ | ⟨k, hk, reply, frames⟩⟩ := h.invoke_cases
    · cases hm
    · obtain rfl := Nat.succ.inj hk
      obtain ⟨statuses, initial, rest⟩ := ih frames
      rw [playback_succ hinvoke]
      exact ⟨by simp [reply, statuses, List.replicate_succ], initial, same.trans rest⟩

theorem framesLeft_of_initial {s : State} (inv : MachineInv s) (h : Initial s)
    (unreserved : ∀ a, a < s.streamLen → isReserved (instrAt s a) = false) :
    FramesLeft (countNextframes s s.streamLen) s := by
  obtain ⟨-, -, -, -, -, -, start, -, fault, -, -, -, idle⟩ := h
  have zero : s.start.toNat = 0 := congrArg BitVec.toNat start
  exact ⟨inv, ⟨idle, fault⟩, zero ▸ Nat.zero_le _, unreserved, by rw [zero, countNextframes, Nat.zero_add]⟩

/-- Run from the initial record begins the same invocation, whatever the host was given before. -/
theorem hostRun_eq_of_initial {s t : State} (hs : Initial s) (ht : Initial t) (same : SameProgram s t) :
    hostRun t = hostRun s := by
  cases s; cases t
  obtain ⟨rfl, rfl, rfl, rfl, rfl, rfl, rfl, rfl, rfl, rfl, rfl, rfl, rfl⟩ := hs
  obtain ⟨rfl, rfl, rfl, rfl, rfl, rfl, rfl, rfl, rfl, rfl, rfl, rfl, rfl⟩ := ht
  obtain ⟨rfl, rfl, rfl⟩ := same
  rfl

/-- Playback sees the block through Run alone. -/
theorem playback_eq_of_hostRun_eq {s t v : State} (hinvoke : invoke s = .next v) (h : hostRun t = hostRun s)
    (n : Nat) : playback (n + 1) t = playback (n + 1) s := by
  have hinvoke' : invoke t = .next v := by rwa [invoke, h]
  rw [playback_succ hinvoke, playback_succ hinvoke']

/-- Settles O47: one period ends in the initial record over the same stream, so the next is the same. -/
theorem playbackLoops : Obligations.PlaybackLoops := by
  intro s inv hs unreserved n
  have frames := framesLeft_of_initial inv hs unreserved
  obtain ⟨statuses, initial, same⟩ := frames.playback_ends
  obtain ⟨v, hinvoke, -⟩ := frames.invoke_cases
  have again := playback_eq_of_hostRun_eq hinvoke (hostRun_eq_of_initial hs initial same) n
  exact ⟨_, _, rfl, initial, statuses, congrArg Prod.fst again, (congrArg (Initial ·.2) again).mpr initial⟩

end Sys2Proof.Machine
end

section
/-! PROOFS. The exception and the host (spec/60_exceptions.md R202, R205, R210): who writes the fault record, what
wakes the idle block, and the running block beside any pending moves. -/

namespace Sys2Proof.Machine

/-! ### A step of the idle block (R188, R210) -/

/-- The idle block with nothing pending waits; with a move pending it takes that move. -/
theorem idle_step_cases {s t : State} (hp : s.phase = .idle) (h : step s = .next t) :
    (s.hostMoves = [] ∧ t = s) ∨
    (∃ m ms, s.hostMoves = m :: ms ∧ hostMove m (setMoves ms s) = .next t) := by
  obtain ⟨-, hm, waits⟩ | ⟨-, m, ms, hm, takes⟩ | ⟨running, -⟩ | ⟨running, -⟩ | ⟨running, -⟩ := step_cases s
  · exact .inl ⟨hm, Host.Outcome.next.inj (h.symm.trans waits)⟩
  · exact .inr ⟨m, ms, hm, takes.symm.trans h⟩
  all_goals simp [hp] at running

/-- A move leaves the idle block idle, or it is the Run of an unfaulted one. -/
theorem hostMove_phase {m : HostMove} {s t : State} (hp : s.phase = .idle) (h : hostMove m s = .next t) :
    t.phase = .idle ∨ (m = .run ∧ s.fault = false) := by
  obtain ⟨bs, -, -, -, rfl⟩ | ⟨-, rfl⟩ | ⟨-, -, rfl⟩ | ⟨hm, hf, rfl⟩ | ⟨c, k, -, -, -, rfl⟩ | ⟨-, r, rfl⟩ :=
    hostMove_cases h
  case inr.inl => exact .inl rfl
  case inr.inr.inr.inl => exact .inr ⟨hm, hf⟩
  all_goals exact .inl hp

/-! ### The fault record (R27, R205) -/

/-- Of the host's moves only Reset writes the fault fields. -/
theorem hostMove_faultFields {m : HostMove} {s t : State} (h : hostMove m s = .next t) :
    (m = .reset ∧ t = hostReset s) ∨
    (t.fault = s.fault ∧ t.faultCode = s.faultCode ∧ t.faultByte = s.faultByte ∧ t.faultAt = s.faultAt) := by
  obtain ⟨bs, -, -, -, rfl⟩ | reset | ⟨-, -, rfl⟩ | ⟨-, -, rfl⟩ | ⟨c, k, -, -, -, rfl⟩ | ⟨-, r, rfl⟩ :=
    hostMove_cases h
  case inr.inl => exact .inl reset
  all_goals exact .inr ⟨rfl, rfl, rfl, rfl⟩

/-- Settles O33: a faulted block is idle, so its step waits or takes a move of the host. -/
theorem onlyResetClearsTheFault : Obligations.OnlyResetClearsTheFault := by
  intro s t inv hf hstep
  obtain ⟨idle, -⟩ := inv.faultSet hf
  obtain ⟨-, rfl⟩ | ⟨m, ms, hms, hm⟩ := idle_step_cases idle hstep
  · exact .inl ⟨hf, rfl, rfl, rfl, idle⟩
  obtain ⟨rfl, rfl⟩ | ⟨fault, code, byte, offset⟩ := hostMove_faultFields hm
  · exact .inr ⟨ms, hms, rfl, rfl, rfl, rfl⟩
  obtain stays | ⟨-, unfaulted⟩ := hostMove_phase (s := setMoves ms s) idle hm
  · exact .inl ⟨fault.trans hf, code, byte, offset, stays⟩
  · exact absurd hf (by simpa using unfaulted)

/-! ### What wakes the block, and the moves beside a running one (R202, R210) -/

theorem effectOf_setMoves (i : Instr) (s : State) (ms : List HostMove) :
    effectOf i (setMoves ms s) = setMoves ms (effectOf i s) := by
  cases i <;> rfl

theorem settle_setMoves (s : State) (ms : List HostMove) : settle (setMoves ms s) = setMoves ms (settle s) := by
  rw [settle, settle, apply_ite (setMoves ms), apply_ite (setMoves ms)]
  rfl

/-- The running block reads no pending move. -/
theorem step_setMoves {s t : State} (ms : List HostMove) (hp : s.phase = .running) (h : step s = .next t) :
    step (setMoves ms s) = .next (setMoves ms t) := by
  obtain ⟨hf, rfl⟩ | ⟨hf, he, rfl⟩ | ⟨i, ha, rfl⟩ := running_step_cases hp h
  · exact step_of_running_fault hp hf
  · exact step_at_end hp hf he
  · have same : AboutTo i (setMoves ms s) := ha
    rw [step_of_aboutTo same, effectOf_setMoves, settle_setMoves]

/-- Settles O34: the idle block's step, then the running block's. -/
theorem onlyRunWakesTheIdleBlock : Obligations.OnlyRunWakesTheIdleBlock := by
  refine ⟨fun s t hp hstep => ?_, fun s t ms hp hstep =>
    ⟨(running_step_sameProgram hp hstep).hostMoves, step_setMoves ms hp hstep⟩⟩
  obtain ⟨-, rfl⟩ | ⟨m, ms, hms, hm⟩ := idle_step_cases hp hstep
  · exact ⟨fun _ => rfl, fun running => by simp [hp] at running⟩
  · refine ⟨fun nothing => by simp [hms] at nothing, fun running => ?_⟩
    obtain idle | ⟨rfl, unfaulted⟩ := hostMove_phase (s := setMoves ms s) hp hm
    · simp [idle] at running
    · exact ⟨ms, hms, unfaulted⟩

end Sys2Proof.Machine
end

section
/-! PROOFS. Reset, boot and exhaustion (spec/70_reset_and_hazards.md R220 to R223): the record that Reset and
exhaustion leave, and the host's moves that bring the block to offset 0. -/

namespace Sys2Proof.Machine

/-! ### Reset and exhaustion leave the initial record (R220, R221) -/

theorem hostReset_initial (s : State) : Initial (hostReset s) :=
  ⟨rfl, rfl, rfl, rfl, rfl, rfl, rfl, rfl, rfl, rfl, rfl, rfl, rfl⟩

/-- Settles O35: the record is the initial one, and the three fields beside it are those Reset leaves. -/
theorem resetWritesTheInitialValues : Obligations.ResetWritesTheInitialValues := by
  refine ⟨fun s => ⟨hostReset s, rfl, ?_⟩, rfl, rfl, rfl, rfl, rfl, rfl, rfl, rfl, rfl, rfl⟩
  simp [hostReset_initial]

/-- There is one initial record. -/
theorem Initial.sameRecord {s t : State} (hs : Initial s) (ht : Initial t) : SameRecord s t := by
  simp_all [Initial, SameRecord]

/-- Settles O41: a running block has not faulted, so exhaustion leaves the initial record, as Reset does. -/
theorem exhaustionEqualsReset : Obligations.ExhaustionEqualsReset := by
  intro s inv hp he
  have initial : Initial (exhaust s) := exhaust_initial inv hp
  exact ⟨exhaust s, hostReset s, step_at_end hp (inv.no_fault_of_running hp) he, rfl,
    initial.sameRecord (hostReset_initial s), initial, rfl, rfl, rfl, rfl⟩

/-! ### Boot (R222, R223) -/

theorem step_takes_move {m : HostMove} {ms : List HostMove} {s : State} (hp : s.phase = .idle)
    (hm : s.hostMoves = m :: ms) : step s = hostMove m (setMoves ms s) := by
  simp [step, hp, idleStep, hm]

/-- A run of the idle block begins with the first pending move. -/
theorem core_run_takes_move {m : HostMove} {ms : List HostMove} {s t : State} (hp : s.phase = .idle)
    (hm : s.hostMoves = m :: ms) (h : hostMove m (setMoves ms s) = .next t) (k : Nat) :
    Host.Core.run core (k + 1) s = Host.Core.run core k t := by
  have hstep : core.step s = .next t := (step_takes_move hp hm).trans h
  simp only [Host.Core.run, hstep]

theorem hostMove_run_of_no_fault {s : State} (hf : s.fault = false) :
    hostMove .run s = .next (beginRunning (lowerEnd s)) :=
  congrArg Host.Outcome.next (hostRun_of_no_fault hf)

/-- Reset and then Run begin an invocation of the initial record, over the stream that is there. -/
theorem core_run_reset_run {ms : List HostMove} {s : State} (hp : s.phase = .idle)
    (hm : s.hostMoves = .reset :: .run :: ms) :
    Host.Core.run core 2 s = .next (beginRunning (lowerEnd (hostReset (setMoves ms s)))) := by
  have reset := core_run_takes_move hp hm (t := hostReset (setMoves (.run :: ms) s)) rfl 1
  have run := core_run_takes_move (s := hostReset (setMoves (.run :: ms) s)) rfl rfl (hostMove_run_of_no_fault rfl) 0
  exact reset.trans run

/-- Settles O38: Load's step, then Reset and Run over the loaded bytes. -/
theorem bootReachesOffsetZero : Obligations.BootReachesOffsetZero := by
  intro bytes ms s hp hl hlen hm
  have loads := core_run_takes_move hp hm (hostLoad_fits hl hlen) 2
  have starts := core_run_reset_run (s := answer none (setStream bytes (setMoves (.reset :: .run :: ms) s))) hp rfl
  exact ⟨_, loads.trans starts, rfl, rfl, rfl, rfl, rfl, rfl, rfl,
    fun a h => (memRead_congr rfl rfl a).trans (memRead_setStream h s)⟩

end Sys2Proof.Machine
end

section
/-! PROOFS. The decode vectors (spec/95_test_vectors.md section 3). -/

namespace Sys2Proof

/-- Settles O2: each byte is its opcode and its operand joined, and the law of that opcode decodes it. -/
theorem sampleBytesDecodeAsTabulated : Obligations.SampleBytesDecodeAsTabulated :=
  ⟨decodeByte_opcode0 0, decodeByte_opcode0 62, decodeByte_opcode1 3, decodeByte_opcode1 32,
    decodeByte_opcode2 0, decodeByte_opcode2 3, decodeByte_opcode2 4, decodeByte_opcode2 8,
    decodeByte_opcode2 9, decodeByte_opcode2 63, decodeByte_opcode3 0, decodeByte_opcode3 10,
    decodeByte_opcode3 63⟩

end Sys2Proof
end
